-- ==== Sys2Proof/Word.lean ====
section
/-! DEFINITION. The machine word and byte of BBSPI. Every register value is a 32-bit unsigned number
(00_scope.md R11); pin identifiers, samples and byte lanes are 8 bits (R8). -/

namespace Sys2Proof

/-- A register value, 32 bits (00_scope.md R8, R11). -/
abbrev Word := BitVec 32

/-- An 8-bit value: a pin identifier, a sample, or one byte lane of a register (00_scope.md R8). -/
abbrev Byte := BitVec 8

end Sys2Proof
end

