-- ==== Sys2Proof/Syntax.lean ====
section
/-! DEFINITION. The four commands of spec/opcode_table.json as one inductive, and the reasons a command
word or its bytes are rejected. -/

namespace Sys2Proof

/-- A command of BBSPI (00_scope.md R2, 30_encoding.md R81). The operands of SETUP are the staged
configuration registers, not fields of the word; SETUP and TEARDOWN ignore CH (R82). -/
inductive Instr where
  /-- SETUP, OP 0x1 (42_lifecycle.md R140). -/
  | setup
  /-- READ ch, OP 0x2 (43_transaction.md R160). `ch` is the unsigned channel operand CMD[15:8] (R82). -/
  | read (ch : Nat)
  /-- READ_BOTH ch, OP 0x3 (43_transaction.md R161). -/
  | readBoth (ch : Nat)
  /-- TEARDOWN, OP 0x4 (42_lifecycle.md R150). -/
  | teardown
  deriving DecidableEq, Repr

/-- Why a command word, or bytes that should hold one, stand for no command. -/
inductive DecodeError where
  /-- OP is 0x0 or 0x5 to 0xF (30_encoding.md R81, R84). The machine answers it with ILLEGAL_COMMAND. -/
  | unassignedOp (op : BitVec 4)
  /-- Fewer than four bytes: a command is exactly one 32-bit word (30_encoding.md R85). -/
  | truncated
  deriving DecidableEq, Repr

end Sys2Proof
end

