-- ==== Sys2Proof/WellFormed.lean ====
section
/-! DEFINITION. Which terms of Instr a command word can spell. -/

namespace Sys2Proof

/-- The channel operand is the 8-bit field CMD[15:8], so it lies in 0 to 255 (30_encoding.md R80, R82).
A channel of 2 to 255 is a well-formed command: it is refused by its check, not by its form. -/
def Instr.wellFormed : Instr → Bool
  | .setup => true
  | .read ch => decide (ch < 256)
  | .readBoth ch => decide (ch < 256)
  | .teardown => true

/-- The same as a proposition. -/
abbrev Instr.WellFormed (i : Instr) : Prop := i.wellFormed = true

end Sys2Proof
end

