-- ==== Sys2Proof/Decode.lean ====
section
/-! DEFINITION. The decoder of command words and of their bytes, and after it the encoder
(30_encoding.md R80 to R85). -/

namespace Sys2Proof

/-- The field OP, CMD[3:0] (30_encoding.md R80). -/
def opField (w : Word) : BitVec 4 := w.extractLsb' 0 4

/-- The field CH, CMD[15:8] (30_encoding.md R80). -/
def chField (w : Word) : Byte := w.extractLsb' 8 8

/-- The channel operand `ch = zext_32(CMD[15:8])`, an unsigned number (30_encoding.md R82). -/
def chOperand (w : Word) : Nat := (chField w).toNat

/-- The opcode map: OP is decoded from bits 3:0 alone, reserved bits are ignored
(30_encoding.md R81, R83, R84). -/
def decode (w : Word) : Except DecodeError Instr :=
  match opField w with
  | 0x1#4 => .ok .setup
  | 0x2#4 => .ok (.read (chOperand w))
  | 0x3#4 => .ok (.readBoth (chOperand w))
  | 0x4#4 => .ok .teardown
  | op => .error (.unassignedOp op)

/-- Byte lane `k` of a word: bits [8k+7:8k] (20_memory.md R64). -/
def byteLane (w : Word) (k : Nat) : Byte := w.extractLsb' (8 * k) 8

/-- The four bytes of a word on a platform bus, byte 0 at the lowest address (20_memory.md R64). -/
def wordBytes (w : Word) : List Byte := [byteLane w 0, byteLane w 1, byteLane w 2, byteLane w 3]

/-- The word whose lanes 0 to 3 are the given bytes (20_memory.md R64). -/
def wordOfBytes (b0 b1 b2 b3 : Byte) : Word := b3 ++ b2 ++ b1 ++ b0

/-- Decoding of bytes: one whole word in little-endian lanes, and the bytes after it (20_memory.md R64,
30_encoding.md R85). Total; too few bytes are rejected by name. -/
def decodeBytes : List Byte → Except DecodeError (Instr × List Byte)
  | b0 :: b1 :: b2 :: b3 :: rest =>
    match decode (wordOfBytes b0 b1 b2 b3) with
    | .ok i => .ok (i, rest)
    | .error e => .error e
  | _ => .error .truncated

/-- An opcode-table row's bits as the command word they stand for: the bits above `nbits` are 0. -/
def tableWord (nbits w : Nat) : Word := BitVec.ofNat 32 (w % 2 ^ nbits)

/-- The instruction the decoder reads from an opcode-table row's bits laid out as bytes. -/
def decodeTableWord (nbits w : Nat) : Option Instr :=
  match decodeBytes (wordBytes (tableWord nbits w)) with
  | .ok (i, _) => some i
  | .error _ => none

/-- A command word from its two fields, reserved bits 0 (30_encoding.md R80). -/
def commandWord (ch : Byte) (op : BitVec 4) : Word := 0#16 ++ ch ++ 0#4 ++ op

/-- The word of a command, as the pseudo-instructions of 30_encoding.md R91 expand. -/
def encode : Instr → Word
  | .setup => commandWord 0 0x1
  | .read ch => commandWord (BitVec.ofNat 8 ch) 0x2
  | .readBoth ch => commandWord (BitVec.ofNat 8 ch) 0x3
  | .teardown => commandWord 0 0x4

/-- The bytes of a command's word (20_memory.md R64). -/
def encodeBytes (i : Instr) : List Byte := wordBytes (encode i)

end Sys2Proof
end

