-- ==== Sys2Proof/Config.lean ====
section
/-! DEFINITION. The pin vocabulary of the Pin Controller port and the values the spec leaves open: the
parameters of 00_scope.md R9 and the Pin Controller's answers. An opaque constant has no body, so a proof
can use no value of it. -/

namespace Sys2Proof

/-- The numbering scheme of pin identifiers: 0 = BCM, 1 = BOARD (10_state.md R36, 20_memory.md R62). -/
inductive Scheme where
  | bcm
  | board
  deriving DecidableEq, Repr, Inhabited

/-- A pin identifier, the pair (scheme, id) (20_memory.md R62). -/
structure PinId where
  scheme : Scheme
  id : Byte
  deriving DecidableEq, Repr, Inhabited

/-- The answer `(lvl, err)` to a pin operation (40_interfaces.md R104). -/
structure PinAnswer where
  level : Bool
  err : Bool
  deriving DecidableEq, Repr, Inhabited

/-- What the Pin Controller does with the pin operation the Controller is issuing, in one Controller step
(40_interfaces.md R102). -/
inductive PinReply where
  /-- `pc_req_ready` = 0: the request is not taken this time. -/
  | notReady
  /-- The operation is taken and `pc_rsp_valid` is still 0. -/
  | pending
  /-- `pc_rsp_valid` = 1 with `pc_rsp_level` and `pc_rsp_err`. -/
  | answered (a : PinAnswer)
  deriving DecidableEq, Repr, Inhabited

/-- FREE VALUE (log 4). The Pin Controller's n-th reply past the replies that State lists: any level, any
error bit, any delay, or no answer ever (40_interfaces.md R102, R104; 92_eei_decisions.md D42). -/
opaque Config.pinReply : Nat → PinReply

/-- OPEN parameter `F_CLK_HZ` less one, so that the frequency is positive (00_scope.md R9; log 21). -/
opaque Config.fClkHzPred : Nat

/-- OPEN parameter `BBSPI_BASE` divided by 64, so that the base is 64-byte aligned (00_scope.md R9; log 21). -/
opaque Config.windowIndex : Nat

/-- OPEN parameter `T_CONV_MIN_NS`, the converter's minimum half-cycle (00_scope.md R9; log 21). -/
opaque Config.tConvMinNs : Nat

/-- OPEN parameter `RESOLVE(scheme, id)`: the physical pin. Only the Pin Controller evaluates it
(00_scope.md R9, 20_memory.md R62; log 21). -/
opaque Config.resolve : PinId → Nat

/-- `F_CLK_HZ`, a positive integer (00_scope.md R9). -/
def Config.fClkHz : Nat := Config.fClkHzPred + 1

/-- `BBSPI_BASE`, 64-byte aligned (00_scope.md R9, 20_memory.md R61). -/
def Config.windowBase : Nat := 64 * Config.windowIndex

end Sys2Proof
end

