-- ==== Sys2Proof/Machine/State.lean ====
section
/-! DEFINITION. The state of BBSPI: the nine registers of the window, the hidden sequencer state of
10_state.md R40, the ports' state, and the plain data that stands for the outside world; Fault, Refusal and
the state right after reset. -/

namespace Sys2Proof.Machine

open Sys2Proof

/-- STATUS.STATE, the lifecycle (10_state.md R24). -/
inductive Lifecycle where
  | uninitialized
  | idle
  | inTransaction
  | released
  deriving DecidableEq, Repr

/-- The result codes of STATUS.ERR (60_exceptions.md R201). Codes 6 and 7 are never written. -/
inductive ErrCode where
  | ok
  | configurationError
  | invalidChannel
  | notInitialized
  | illegalCommand
  | busError
  deriving DecidableEq, Repr

/-- PHASE of the Controller (10_state.md R40). -/
inductive Phase where
  | none
  | check
  | run
  deriving DecidableEq, Repr

/-- A PinAssignment: the layout of CFG_PINS and ACT_PINS without its reserved bits (10_state.md R36, R39). -/
structure Pins where
  cs : Byte
  clk : Byte
  dio : Byte
  scheme : Scheme
  deriving DecidableEq, Repr

/-- The layout of CFG_OPT and ACT_OPT without its reserved bits (10_state.md R38, R39). -/
structure Options where
  secondLsb : Bool
  mismatchZero : Bool
  deriving DecidableEq, Repr

/-- The fields of RESULT (10_state.md R30). `matched` is MATCH; `kind` is true for READ_BOTH. -/
structure Result where
  sample : Byte
  first : Byte
  second : Byte
  matched : Bool
  kind : Bool
  valid : Bool
  deriving DecidableEq, Repr

/-- SNAP: the staged configuration a SETUP took at its check step (10_state.md R40). -/
structure Snap where
  pins : Pins
  delay : Word
  opt : Options
  deriving DecidableEq, Repr

/-- An event of the Controller (30_encoding.md R89). -/
inductive Event where
  | cfgOut (p : PinId) (v : Bool)
  | cfgIn (p : PinId)
  | write (p : PinId) (v : Bool)
  | read (p : PinId)
  | release (p : PinId)
  | delay (ns : Word)
  deriving DecidableEq, Repr

/-- How a Pin Controller error in an event is handled (10_state.md R40, 41_command_engine.md R124, R125). -/
inductive Tag where
  | normal
  | release
  deriving DecidableEq, Repr

/-- Where the one outstanding exchange on the Pin Controller port stands (40_interfaces.md R102). -/
inductive Handshake where
  /-- No request is presented and no answer is awaited. -/
  | idle
  /-- `pc_req_valid` = 1, not yet taken. The request is the first event of `seq`. -/
  | presented
  /-- The operation is taken; `pc_req_valid` = 0 and the answer is awaited. -/
  | taken
  deriving DecidableEq, Repr

/-- One entry of the event trace: an event issued, with its answer if it is a pin operation
(40_interfaces.md R110). A pin operation without an answer is one the Pin Controller took and has not
answered, or never will since a reset cut it off (70_reset_and_hazards.md R232; log 8). -/
structure TraceEntry where
  event : Event
  answer : Option PinAnswer
  deriving DecidableEq, Repr

/-- A host access on the register port: one atomic Host step (40_interfaces.md R101, 20_memory.md R66). -/
inductive HostAccess where
  | read (off : BitVec 6)
  | write (off : BitVec 6) (data : Word)
  deriving DecidableEq, Repr

/-- Which agent moves (00_scope.md R10), or what the outside does to an input of the block. -/
inductive Move where
  /-- The Controller takes its next step, if it has one. -/
  | controller
  /-- The host makes one access. -/
  | host (a : HostAccess)
  /-- `rst_ni` is driven to this level (40_interfaces.md R100). -/
  | rst (level : Bool)
  /-- `pc_rsp_valid` is raised with this answer while the block waits for none
  (70_reset_and_hazards.md R232, 93_implementation_defined.md I11). -/
  | strayAnswer (a : PinAnswer)
  deriving DecidableEq, Repr

/-- Faults of the machine: none. BBSPI has no fault mechanism; every error the hardware can see becomes a
result code or a sticky flag (60_exceptions.md R211, 93_implementation_defined.md). Nobody raises one (log 16). -/
inductive Fault where
  deriving DecidableEq, Repr

/-- Why the model declines a step. -/
inductive Refusal where
  /-- An instruction with no meaning yet; raised only by exec's arms. Safe. No arm raises it now. -/
  | notModelled (mnemonic : String)
  /-- The Pin Controller answers without a request, or answers twice: outside the port contract, to be
  refused (93_implementation_defined.md I11). Raised by the move `strayAnswer` when no answer is owed. Safe. -/
  | unsolicitedPinAnswer
  deriving DecidableEq, Repr

/-- The state. The first two groups are the whole architectural state of 10_state.md R20. -/
structure State where
  /-- CMD, the last accepted command word (10_state.md R22). -/
  cmd : Word
  /-- STATUS.STATE (10_state.md R24). -/
  state : Lifecycle
  /-- STATUS.BUSY (10_state.md R25). -/
  busy : Bool
  /-- STATUS.ERR (10_state.md R26). -/
  err : ErrCode
  /-- STATUS.GLITCH (10_state.md R27). -/
  glitch : Bool
  /-- STATUS.RELERR (10_state.md R28). -/
  relerr : Bool
  /-- STATUS.OVR (10_state.md R29). -/
  ovr : Bool
  /-- RESULT (10_state.md R30). -/
  result : Result
  /-- CFG_PINS (10_state.md R36). -/
  cfgPins : Pins
  /-- CFG_DELAY (10_state.md R37). -/
  cfgDelay : Word
  /-- CFG_OPT (10_state.md R38). -/
  cfgOpt : Options
  /-- ACT_PINS (10_state.md R39). -/
  actPins : Pins
  /-- ACT_DELAY (10_state.md R39). -/
  actDelay : Word
  /-- ACT_OPT (10_state.md R39). -/
  actOpt : Options
  /-- PHASE (10_state.md R40). -/
  phase : Phase
  /-- CUR, the accepted command word (10_state.md R40). -/
  cur : Word
  /-- The remaining events of the command (10_state.md R40). -/
  seq : List (Event × Tag)
  /-- ABORTED (10_state.md R40). -/
  aborted : Bool
  /-- NEXT_STATE (10_state.md R40). -/
  nextState : Lifecycle
  /-- SR: bit k is the k-th level read in this transaction (10_state.md R40). -/
  sr : BitVec 16
  /-- NREAD: how many levels of SR are filled (10_state.md R40). -/
  nread : Nat
  /-- SNAP (10_state.md R40). -/
  snap : Snap
  /-- The exchange on the Pin Controller port (40_interfaces.md R102). -/
  handshake : Handshake
  /-- Answers the Pin Controller still owes for operations that a reset cut off
  (70_reset_and_hazards.md R232). -/
  orphans : Nat
  /-- `rst_ni` (40_interfaces.md R100). -/
  rstN : Bool
  /-- `reg_rdata`, the value the last host read returned (40_interfaces.md R101). -/
  rdata : Word
  /-- MODEL. The moves to come, oldest first; when it is empty the Controller moves (log 2). -/
  agenda : List Move
  /-- MODEL. The Pin Controller's replies given in advance, oldest first (log 4). -/
  replies : List PinReply
  /-- MODEL. How many replies were drawn from `Config.pinReply` (log 4). -/
  draws : Nat
  /-- MODEL. The parameter `PIN_VALID` as data: the identifiers for which it is false (log 6). -/
  invalidPins : List PinId
  /-- MODEL. The closed entries of the event trace, oldest first: the events that have left `seq`, and the
  operations a reset cut off. The whole trace of 40_interfaces.md R110 is `eventTrace`, which adds the
  operation in flight (log 8). -/
  trace : List TraceEntry
  deriving DecidableEq, Repr

/-- The machine right after reset: every register and hidden item at the value of 10_state.md R43, `rst_ni`
back at 1 (70_reset_and_hazards.md R230), no request on the port (R231). The fields R43 does not list hold the
values that logs 2, 4, 5, 6, 7, 8 and 9 name. -/
def State.reset : State where
  cmd := 0
  state := .uninitialized
  busy := false
  err := .ok
  glitch := false
  relerr := false
  ovr := false
  result := ⟨0, 0, 0, false, false, false⟩
  cfgPins := ⟨0, 0, 0, .bcm⟩
  cfgDelay := 2000
  cfgOpt := ⟨false, false⟩
  actPins := ⟨0, 0, 0, .bcm⟩
  actDelay := 2000
  actOpt := ⟨false, false⟩
  phase := .none
  cur := 0
  seq := []
  aborted := false
  nextState := .uninitialized
  sr := 0
  nread := 0
  snap := ⟨⟨0, 0, 0, .bcm⟩, 2000, ⟨false, false⟩⟩
  handshake := .idle
  orphans := 0
  rstN := true
  rdata := 0
  agenda := []
  replies := []
  draws := 0
  invalidPins := []
  trace := []

end Sys2Proof.Machine
end

