-- ==== Sys2Proof/Machine/Operands.lean ====
section
/-! DEFINITION. Operand forms: the codes and layouts of the configuration registers, the pin identifiers an
assignment names, the parameter PIN_VALID, the channel bit, the pin-operation codes of the Pin Controller
port, and a delay's cycle count. -/

namespace Sys2Proof.Machine

open Sys2Proof

/-- SCHEME as a bit: 0 = BCM, 1 = BOARD (10_state.md R36). -/
def Scheme.bit : Scheme → Bool
  | .bcm => false
  | .board => true

/-- The scheme a SCHEME bit names (10_state.md R36). -/
def Scheme.ofBit (b : Bool) : Scheme := if b then .board else .bcm

/-- What a write of `w` stores in CFG_PINS: `w & 0x01FFFFFF`, by field (10_state.md R36,
44_register_access.md R193). -/
def Pins.ofWord (w : Word) : Pins where
  cs := w.extractLsb' 0 8
  clk := w.extractLsb' 8 8
  dio := w.extractLsb' 16 8
  scheme := Scheme.ofBit (w.getLsbD 24)

/-- What CFG_PINS and ACT_PINS read as (10_state.md R36, R39, R44). -/
def Pins.toWord (p : Pins) : Word :=
  0#7 ++ BitVec.ofBool (Scheme.bit p.scheme) ++ p.dio ++ p.clk ++ p.cs

/-- What a write of `w` stores in CFG_OPT: `w & 0x00000003`, by field (10_state.md R38,
44_register_access.md R193). -/
def Options.ofWord (w : Word) : Options where
  secondLsb := w.getLsbD 0
  mismatchZero := w.getLsbD 1

/-- What CFG_OPT and ACT_OPT read as (10_state.md R38, R39, R44). -/
def Options.toWord (o : Options) : Word :=
  0#30 ++ BitVec.ofBool o.mismatchZero ++ BitVec.ofBool o.secondLsb

/-- `A.cs` = (A.SCHEME, A.CS_PIN) (42_lifecycle.md, shorthands; 40_interfaces.md R105). -/
def Pins.csPin (a : Pins) : PinId := ⟨a.scheme, a.cs⟩

/-- `A.clk` = (A.SCHEME, A.CLK_PIN). -/
def Pins.clkPin (a : Pins) : PinId := ⟨a.scheme, a.clk⟩

/-- `A.dio` = (A.SCHEME, A.DIO_PIN). -/
def Pins.dioPin (a : Pins) : PinId := ⟨a.scheme, a.dio⟩

/-- The distinctness test of SETUP, on the three 8-bit identifiers (42_lifecycle.md R141). -/
def Pins.distinct (a : Pins) : Bool := !(a.cs == a.clk || a.cs == a.dio || a.clk == a.dio)

/-- `PIN_VALID(scheme, id)` (00_scope.md R9): true unless State lists the identifier (log 6). -/
def pinValid (p : PinId) (s : State) : Bool := !s.invalidPins.contains p

/-- The `PIN_VALID` test of SETUP, on all three pins (42_lifecycle.md R141). -/
def pinsValid (a : Pins) (s : State) : Bool :=
  pinValid a.csPin s && pinValid a.clkPin s && pinValid a.dioPin s

/-- The channel-select bit of the control word, for a channel 0 or 1 (30_encoding.md R86). -/
def channelBit (ch : Nat) : Bool := ch == 1

/-- Does a command word name READ or READ_BOTH (30_encoding.md R81)? -/
def isReadWord (w : Word) : Bool := opField w == 0x2#4 || opField w == 0x3#4

/-- A request on the Pin Controller port: `pc_req_op`, `pc_req_scheme`, `pc_req_pin`, `pc_req_level`
(40_interfaces.md R102). -/
structure PinRequest where
  op : BitVec 3
  scheme : Bool
  pin : Byte
  level : Bool
  deriving DecidableEq, Repr

/-- The request of an event, none for a delay; the codes are those of 30_encoding.md R88, and the level is
driven 0 where a kind does not use it. -/
def Event.request : Event → Option PinRequest
  | .cfgOut p v => some ⟨0b000, Scheme.bit p.scheme, p.id, v⟩
  | .cfgIn p => some ⟨0b001, Scheme.bit p.scheme, p.id, false⟩
  | .write p v => some ⟨0b010, Scheme.bit p.scheme, p.id, v⟩
  | .read p => some ⟨0b011, Scheme.bit p.scheme, p.id, false⟩
  | .release p => some ⟨0b100, Scheme.bit p.scheme, p.id, false⟩
  | .delay _ => none

/-- `pc_req_valid` and the request fields while it is 1: they are those of the first event of `seq`, which
stays in place until its answer, so they are stable (40_interfaces.md R102). -/
def pinRequest (s : State) : Option PinRequest :=
  match s.handshake, s.seq with
  | .presented, (e, _) :: _ => Event.request e
  | _, _ => none

/-- Is the event a READ, the one kind whose answered level is used (40_interfaces.md R104)? -/
def Event.isRead : Event → Bool
  | .read _ => true
  | _ => false

/-- Is the event a pin operation (30_encoding.md R89)? -/
def Event.isPinOp : Event → Bool
  | .delay _ => false
  | _ => true

/-- Is the event a signal transition: CFG_OUT, CFG_IN, WRITE or RELEASE (40_interfaces.md R109)? -/
def Event.isTransition : Event → Bool
  | .cfgOut _ _ => true
  | .cfgIn _ => true
  | .write _ _ => true
  | .read _ => false
  | .release _ => true
  | .delay _ => false

/-- The least count of `clk_i` edges of a delay: `ceil(ns * F_CLK_HZ / 10^9)` (40_interfaces.md R107). No
step of the model depends on it (log 14). -/
def delayCycles (ns : Word) : Nat := (ns.toNat * Config.fClkHz + (10 ^ 9 - 1)) / 10 ^ 9

end Sys2Proof.Machine
end

