-- ==== Sys2Proof/Machine/Flags.lean ====
section
/-! DEFINITION. Flag computations and the words the status registers read as: STATUS, RESULT, CMD, the
sticky flags' clearing, and the comparison of the two samples. -/

namespace Sys2Proof.Machine

open Sys2Proof

/-- The value of STATUS.STATE (10_state.md R24). -/
def Lifecycle.code : Lifecycle → BitVec 2
  | .uninitialized => 0
  | .idle => 1
  | .inTransaction => 2
  | .released => 3

/-- The value of STATUS.ERR (60_exceptions.md R201). -/
def ErrCode.code : ErrCode → BitVec 3
  | .ok => 0
  | .configurationError => 1
  | .invalidChannel => 2
  | .notInitialized => 3
  | .illegalCommand => 4
  | .busError => 5

/-- What STATUS reads as (10_state.md R23, 44_register_access.md R190). -/
def statusWord (s : State) : Word :=
  0#21 ++ BitVec.ofBool s.ovr ++ BitVec.ofBool s.relerr ++ BitVec.ofBool s.glitch ++ 0#1 ++ s.err.code
    ++ 0#1 ++ BitVec.ofBool s.busy ++ s.state.code

/-- What RESULT reads as (10_state.md R30). -/
def Result.toWord (r : Result) : Word :=
  0#5 ++ BitVec.ofBool r.valid ++ BitVec.ofBool r.kind ++ BitVec.ofBool r.matched ++ r.second ++ r.first
    ++ r.sample

/-- What CMD reads as: the reserved bits are 0 (10_state.md R22, 44_register_access.md R190). -/
def cmdWord (s : State) : Word := commandWord (chField s.cmd) (opField s.cmd)

/-- What CMD and CUR hold after the acceptance of `w`: `w & 0x0000FF0F` (41_command_engine.md R120). -/
def acceptedWord (w : Word) : Word := w &&& 0x0000FF0F#32

/-- MATCH: the two samples are bit-for-bit equal (10_state.md R33). -/
def matchFlag (first second : Byte) : Bool := first == second

/-- GLITCH after a READ or READ_BOTH completion: set by a mismatch, else kept (10_state.md R27,
43_transaction.md R174). -/
def glitchAfter (old matched : Bool) : Bool := old || !matched

/-- A sticky flag after a host write whose bit for it is `w1`: a 1 clears, a 0 leaves
(44_register_access.md R192). -/
def stickyAfterWrite (old w1 : Bool) : Bool := old && !w1

/-- A write of STATUS clears the sticky flags written as 1; STATE, BUSY and ERR are read only
(44_register_access.md R192). -/
def clearSticky (w : Word) (s : State) : State :=
  { s with
    glitch := stickyAfterWrite s.glitch (w.getLsbD 8)
    relerr := stickyAfterWrite s.relerr (w.getLsbD 9)
    ovr := stickyAfterWrite s.ovr (w.getLsbD 10) }

end Sys2Proof.Machine
end

