-- ==== Sys2Proof/Machine/Ops.lean ====
section
/-! DEFINITION. The shared operations of the command engine (41_command_engine.md): acceptance, raising an
error, the sequences every command is built from, one event with its answer, the abort, the completion, and
the Controller's step of a command. -/

namespace Sys2Proof.Machine

open Sys2Proof

/-! ## Acceptance and errors -/

/-- Acceptance of a command word (41_command_engine.md R120). -/
def accept (w : Word) (s : State) : State :=
  { s with cmd := acceptedWord w, cur := acceptedWord w, busy := true, phase := .check }

/-- A write of CMD while BUSY is dropped and sets OVR (41_command_engine.md R121). -/
def dropCommand (s : State) : State := { s with ovr := true }

/-- `error_complete(code)`: what `raise` does to a command that fails its checks. It is BBSPI's only form of
taking an exception: nothing is saved, no mode changes and no control is transferred
(41_command_engine.md R128, 60_exceptions.md R200). There is no return from it (R212). -/
def raiseError (code : ErrCode) (s : State) : State :=
  { s with err := code, busy := false, phase := .none }

/-- `ABORTED <- 0`, the check step's first update for an assigned OP (41_command_engine.md R122; log 11). -/
def beginCheck (s : State) : State := { s with aborted := false }

/-- Start a command that passed its checks: its events, NEXT_STATE and PHASE (41_command_engine.md R122). -/
def startRun (events : List (Event × Tag)) (next : Lifecycle) (s : State) : State :=
  { s with seq := events, nextState := next, phase := .run }

/-! ## Sequences every command is built from -/

/-- `T(e)`: a transition and its delay (40_interfaces.md R110). -/
def withDelay (d : Word) (e : Event) : List Event := [e, .delay d]

/-- Every event of a list under one tag (10_state.md R40). -/
def tagged (t : Tag) (events : List Event) : List (Event × Tag) := events.map (fun e => (e, t))

/-- The 12 events of a safe release (40_interfaces.md R111). -/
def safeReleaseEvents (a : Pins) (d : Word) : List Event :=
  withDelay d (.cfgOut a.csPin true) ++ withDelay d (.cfgOut a.clkPin false)
    ++ withDelay d (.cfgOut a.dioPin false)
    ++ withDelay d (.release a.csPin) ++ withDelay d (.release a.clkPin) ++ withDelay d (.release a.dioPin)

/-- `SafeRelease(A, d)`: every event carries the tag RELEASE (40_interfaces.md R111). -/
def safeRelease (a : Pins) (d : Word) : List (Event × Tag) := tagged .release (safeReleaseEvents a d)

/-! ## The Pin Controller's replies -/

/-- The reply to the pin operation at hand: the oldest one State lists, else a free value (log 4). -/
def nextReply (s : State) : PinReply :=
  match s.replies with
  | r :: _ => r
  | [] => Config.pinReply s.draws

/-- The state once that reply is used up. -/
def consumeReply (s : State) : State :=
  match s.replies with
  | _ :: rest => { s with replies := rest }
  | [] => { s with draws := s.draws + 1 }

/-! ## Event steps -/

/-- SR with bit `k` set to the level read (41_command_engine.md R123). -/
def setLevel (sr : BitVec 16) (k : Nat) (level : Bool) : BitVec 16 :=
  if level then sr ||| (1#16 <<< k) else sr &&& ~~~(1#16 <<< k)

/-- `SR[NREAD] <- lvl; NREAD <- NREAD + 1` (41_command_engine.md R123, 43_transaction.md R166). NREAD counts
to 16; a seventeenth level, which no command reads, is dropped (log 13). -/
def storeLevel (level : Bool) (s : State) : State :=
  if s.nread < 16 then { s with sr := setLevel s.sr s.nread level, nread := s.nread + 1 } else s

/-- `abort()`: what remains of the command is replaced with a safe release of its pins, and it ends in
RELEASED (41_command_engine.md R126). -/
def abort (s : State) : State :=
  { s with seq := safeRelease s.actPins s.actDelay, aborted := true, nextState := .released }

/-- The pin operation the Pin Controller has taken and not answered, as an entry of the trace: the first event
of `seq`, at most one (40_interfaces.md R102, 20_memory.md R75). -/
def inFlight (s : State) : List TraceEntry :=
  match s.handshake, s.seq with
  | .taken, (e, _) :: _ => [⟨e, none⟩]
  | _, _ => []

/-- The event trace: every event issued so far, in order, each pin operation from the moment the Pin
Controller takes it, with its answer once it is given (40_interfaces.md R110, 20_memory.md R75; log 8). -/
def eventTrace (s : State) : List TraceEntry := s.trace ++ inFlight s

/-- An event leaves `seq` and enters the trace; the port is idle again (41_command_engine.md R123,
40_interfaces.md R110). -/
def retire (e : Event) (rest : List (Event × Tag)) (answer : Option PinAnswer) (s : State) : State :=
  { s with seq := rest, handshake := .idle, trace := s.trace ++ [⟨e, answer⟩] }

/-- What an answer with `err = 1` does: an abort under NORMAL, RELERR under RELEASE
(41_command_engine.md R124, R125). -/
def pinError (tag : Tag) (s : State) : State :=
  match tag with
  | .normal => abort s
  | .release => { s with relerr := true }

/-- A pin operation that is answered (41_command_engine.md R123, 40_interfaces.md R104). -/
def finishPinOp (e : Event) (tag : Tag) (rest : List (Event × Tag)) (a : PinAnswer) (s : State) : State :=
  let t := retire e rest (some a) s
  if a.err then pinError tag t else if e.isRead then storeLevel a.level t else t

/-- The port after a step in which the operation is not answered (40_interfaces.md R102): an operation once
taken stays taken. -/
def waitHandshake (taken : Bool) (h : Handshake) : Handshake :=
  if taken then .taken else match h with
    | .taken => .taken
    | _ => .presented

/-- One Controller step of a pin operation. Without an answer the Controller waits
(40_interfaces.md R102, 70_reset_and_hazards.md R239; log 5). -/
def pinOpStep (e : Event) (tag : Tag) (rest : List (Event × Tag)) (s : State) : State :=
  let t := consumeReply s
  match nextReply s with
  | .notReady => { t with handshake := waitHandshake false t.handshake }
  | .pending => { t with handshake := waitHandshake true t.handshake }
  | .answered a => finishPinOp e tag rest a t

/-- `event_step()`. A Delay has no answer, cannot fail and changes only `seq` (41_command_engine.md R123,
40_interfaces.md R107; log 14). -/
def eventStep (e : Event) (tag : Tag) (rest : List (Event × Tag)) (s : State) : State :=
  match e with
  | .delay _ => retire e rest none s
  | .cfgOut _ _ => pinOpStep e tag rest s
  | .cfgIn _ => pinOpStep e tag rest s
  | .write _ _ => pinOpStep e tag rest s
  | .read _ => pinOpStep e tag rest s
  | .release _ => pinOpStep e tag rest s

/-! ## Completion and the Controller's step -/

/-- `completion_step()`. `onOk` is what a command's own completion adds when it was not aborted
(41_command_engine.md R127). -/
def completionStep (onOk : State → State) (s : State) : State :=
  let t := if s.aborted then { s with err := .busError } else { onOk s with err := .ok }
  { t with state := s.nextState, busy := false, phase := .none }

/-- The Controller's next step of the command in progress (41_command_engine.md R122, R123, R127): the check
step in CHECK, an event step in RUN while events remain, else the completion step. With PHASE = NONE the
Controller has no enabled step (R129, 60_exceptions.md R221; log 17). -/
def commandStep (check onOk : State → State) (s : State) : State :=
  match s.phase with
  | .none => s
  | .check => check s
  | .run =>
    match s.seq with
    | [] => completionStep onOk s
    | (e, tag) :: rest => eventStep e tag rest s

/-- The step of an accepted word whose OP is unassigned: ILLEGAL_COMMAND at the check step
(60_exceptions.md R205, 30_encoding.md R84; log 12). -/
def illegalStep (s : State) : State := commandStep (raiseError .illegalCommand) id s

end Sys2Proof.Machine
end

