-- ==== Sys2Proof/Machine/Lifecycle.lean ====
section
/-! DEFINITION. The lifecycle commands SETUP and TEARDOWN (42_lifecycle.md). -/

namespace Sys2Proof.Machine

open Sys2Proof

/-- The 6 events of `Configure(N, d)` (42_lifecycle.md R142). -/
def configureEvents (n : Pins) (d : Word) : List Event :=
  withDelay d (.cfgOut n.csPin true) ++ withDelay d (.cfgOut n.clkPin false)
    ++ withDelay d (.cfgOut n.dioPin false)

/-- `Configure(N, d)`: every event carries the tag NORMAL (42_lifecycle.md R142). -/
def configure (n : Pins) (d : Word) : List (Event × Tag) := tagged .normal (configureEvents n d)

/-- `SNAP <- (N, d, o)`, from the staged configuration (42_lifecycle.md R141). -/
def takeSnap (s : State) : State := { s with snap := ⟨s.cfgPins, s.cfgDelay, s.cfgOpt⟩ }

/-- `ACT_PINS <- N; ACT_DELAY <- d; ACT_OPT <- o`, the values of SNAP (42_lifecycle.md R141). -/
def latchActive (s : State) : State :=
  { s with actPins := s.snap.pins, actDelay := s.snap.delay, actOpt := s.snap.opt }

/-- The events a SETUP issues before its own: the safe release of the old pins from IDLE, none otherwise
(42_lifecycle.md R141, R143). -/
def setupPrelude (s : State) : List (Event × Tag) :=
  if s.state = .idle then safeRelease s.actPins s.actDelay else []

/-- `setup_check()` (42_lifecycle.md R141). -/
def setupCheck (s : State) : State :=
  if !s.cfgPins.distinct then raiseError .configurationError s
  else if !pinsValid s.cfgPins s then raiseError .configurationError s
  else
    let t := latchActive (takeSnap s)
    startRun (setupPrelude s ++ configure t.snap.pins t.snap.delay) .idle t

/-- SETUP (42_lifecycle.md R140): the Controller's next step of it. -/
def execSetup (s : State) : Host.Outcome State Fault Refusal :=
  .next (commandStep (fun t => setupCheck (beginCheck t)) id s)

/-- The events of a TEARDOWN: the safe release where the block owns the pins, none from UNINITIALIZED and
RELEASED (42_lifecycle.md R150 to R153). IN_TRANSACTION cannot be the state at a TEARDOWN check step; there
the block owns the pins (10_state.md R41) and they are released (log 10). -/
def teardownEvents (s : State) : List (Event × Tag) :=
  match s.state with
  | .idle => safeRelease s.actPins s.actDelay
  | .inTransaction => safeRelease s.actPins s.actDelay
  | .uninitialized => []
  | .released => []

/-- `teardown_check()` (42_lifecycle.md R150). -/
def teardownCheck (s : State) : State := startRun (teardownEvents s) .released s

/-- TEARDOWN (42_lifecycle.md R150): the Controller's next step of it. -/
def execTeardown (s : State) : Host.Outcome State Fault Refusal :=
  .next (commandStep (fun t => teardownCheck (beginCheck t)) id s)

end Sys2Proof.Machine
end

