-- ==== Sys2Proof/Machine/Transaction.lean ====
section
/-! DEFINITION. The transaction commands READ and READ_BOTH, the assembly of samples and their validation
(43_transaction.md). -/

namespace Sys2Proof.Machine

open Sys2Proof

/-! ## The transaction sequence -/

/-- Step 1, Select (43_transaction.md R163). -/
def selectEvents (a : Pins) (d : Word) : List Event :=
  withDelay d (.write a.csPin false) ++ withDelay d (.write a.clkPin false)

/-- One clock pulse without a Read: a rising and a falling edge (43_transaction.md R164, R167). -/
def clockPulse (a : Pins) (d : Word) : List Event :=
  withDelay d (.write a.clkPin true) ++ withDelay d (.write a.clkPin false)

/-- `Bit(b)`: one bit of the control word (43_transaction.md R164). -/
def sendBit (a : Pins) (d : Word) (b : Bool) : List Event :=
  withDelay d (.write a.dioPin b) ++ clockPulse a d

/-- The control word in sending order: start bit 1, single-ended bit 1, channel bit (30_encoding.md R86). -/
def controlWord (ch : Nat) : List Bool := [true, true, channelBit ch]

/-- `Sample`: one clocked Read, the level taken with the clock high (43_transaction.md R166). -/
def sampleEvents (a : Pins) (d : Word) : List Event :=
  withDelay d (.write a.clkPin true) ++ [.read a.dioPin] ++ withDelay d (.write a.clkPin false)

/-- Eight Samples (43_transaction.md R166, R168). -/
def sampleByte (a : Pins) (d : Word) : List Event := (List.replicate 8 (sampleEvents a d)).flatten

/-- Step 7, Deselect (43_transaction.md R169). -/
def deselectEvents (a : Pins) (d : Word) : List Event :=
  withDelay d (.cfgOut a.dioPin false) ++ withDelay d (.write a.csPin true)

/-- The 112 events of `Transaction(ch, A, d)` (43_transaction.md R162). -/
def transactionEvents (ch : Nat) (a : Pins) (d : Word) : List Event :=
  selectEvents a d ++ (controlWord ch).flatMap (sendBit a d) ++ withDelay d (.cfgIn a.dioPin)
    ++ sampleByte a d ++ clockPulse a d ++ sampleByte a d ++ deselectEvents a d

/-- `Transaction(ch, A, d)`: every event carries the tag NORMAL (43_transaction.md R162). -/
def transaction (ch : Nat) (a : Pins) (d : Word) : List (Event × Tag) :=
  tagged .normal (transactionEvents ch a d)

/-! ## Sample assembly -/

/-- The shift `v <- (v << 1) | SR[i]` over the bit positions of SR in the order given, from 0, kept to 8
bits (43_transaction.md R170). -/
def assemble (sr : BitVec 16) (order : List Nat) : Byte :=
  order.foldl (fun v i => v.shiftConcat (sr.getLsbD i)) 0#8

/-- The first sample, MSB-first: {SR[0], …, SR[7]} (43_transaction.md R170). -/
def firstSample (sr : BitVec 16) : Byte := assemble sr [0, 1, 2, 3, 4, 5, 6, 7]

/-- The second sample: {SR[8], …, SR[15]}, or {SR[15], …, SR[8]} with SECOND_LSB (43_transaction.md R171). -/
def secondSample (lsbFirst : Bool) (sr : BitVec 16) : Byte :=
  if lsbFirst then assemble sr [15, 14, 13, 12, 11, 10, 9, 8]
  else assemble sr [8, 9, 10, 11, 12, 13, 14, 15]

/-! ## Sample validation -/

/-- The states of the sample-validation machine (43_transaction.md R172). -/
inductive Validation where
  | idle
  | collect
  | compare
  | matched
  | mismatched
  | discard
  deriving DecidableEq, Repr

/-- Where the validation machine stands between two steps. It is not visible state: it collects exactly while
a READ or READ_BOTH runs (43_transaction.md R172). -/
def validation (s : State) : Validation :=
  if s.phase = .run ∧ isReadWord s.cur = true then .collect else .idle

/-- V_COMPARE's outcome (43_transaction.md R172). -/
def compareSamples (first second : Byte) : Validation :=
  if matchFlag first second then .matched else .mismatched

/-- The reconciled SAMPLE under the mismatch policy (43_transaction.md R173). -/
def reconciledSample (first : Byte) (matched mismatchZero : Bool) : Byte :=
  if matched then first else if mismatchZero then 0 else first

/-- `reconcile_and_write_result()`; `kind` is RESULT.KIND, true for READ_BOTH (43_transaction.md R172, R174,
10_state.md R34; log 18). -/
def reconcile (kind : Bool) (s : State) : State :=
  let first := firstSample s.sr
  let second := secondSample s.actOpt.secondLsb s.sr
  let matched := decide (compareSamples first second = .matched)
  { s with
    result := ⟨reconciledSample first matched s.actOpt.mismatchZero, first, second, matched, kind, true⟩
    glitch := glitchAfter s.glitch matched }

/-! ## The commands -/

/-- `read_check(ch)`, shared by READ and READ_BOTH: NOT_INITIALIZED before INVALID_CHANNEL
(43_transaction.md R160, R161; 60_exceptions.md R210). -/
def readCheck (ch : Nat) (s : State) : State :=
  if s.state ≠ .idle then raiseError .notInitialized s
  else if 2 ≤ ch then raiseError .invalidChannel s
  else
    startRun (transaction ch s.actPins s.actDelay) .idle
      { s with sr := 0, nread := 0, state := .inTransaction }

/-- READ (43_transaction.md R160): the Controller's next step of it. -/
def execRead (ch : Nat) (s : State) : Host.Outcome State Fault Refusal :=
  .next (commandStep (fun t => readCheck ch (beginCheck t)) (reconcile false) s)

/-- READ_BOTH (43_transaction.md R161): the Controller's next step of it. -/
def execReadBoth (ch : Nat) (s : State) : Host.Outcome State Fault Refusal :=
  .next (commandStep (fun t => readCheck ch (beginCheck t)) (reconcile true) s)

end Sys2Proof.Machine
end

