-- ==== Sys2Proof/Machine/Dispatch.lean ====
section
/-! DEFINITION. The dispatch from each command to its meaning. -/

namespace Sys2Proof.Machine

open Sys2Proof

def exec (i : Instr) (s : State) : Host.Outcome State Fault Refusal :=
  match i with
  | .setup => Sys2Proof.Machine.execSetup s
  | .read ch => Sys2Proof.Machine.execRead ch s
  | .readBoth ch => Sys2Proof.Machine.execReadBoth ch s
  | .teardown => Sys2Proof.Machine.execTeardown s

end Sys2Proof.Machine
end

