-- ==== Sys2Proof/Machine/Registers.lean ====
section
/-! DEFINITION. Host reads and writes of the register window (44_register_access.md), the register port's
signals, the platform address of the window, and the host notation of 30_encoding.md R90 and R91. -/

namespace Sys2Proof.Machine

open Sys2Proof

/-- `MemRead(off, 4)`: what a host read of a window offset returns; every unmapped or misaligned offset reads
0 (44_register_access.md R190, 20_memory.md R65). -/
def readReg (off : BitVec 6) (s : State) : Word :=
  match off with
  | 0x00#6 => cmdWord s
  | 0x04#6 => statusWord s
  | 0x08#6 => s.result.toWord
  | 0x0C#6 => s.cfgPins.toWord
  | 0x10#6 => s.cfgDelay
  | 0x14#6 => s.cfgOpt.toWord
  | 0x18#6 => s.actPins.toWord
  | 0x1C#6 => s.actDelay
  | 0x20#6 => s.actOpt.toWord
  | _ => 0

/-- A write of CMD: acceptance, or a drop while BUSY (44_register_access.md R191). -/
def writeCmd (w : Word) (s : State) : State := if s.busy then dropCommand s else accept w s

/-- `MemWrite(off, 4, w)`. A write of RESULT, ACT_* or an unmapped offset changes nothing
(44_register_access.md R191 to R194, 20_memory.md R65). -/
def writeReg (off : BitVec 6) (w : Word) (s : State) : State :=
  match off with
  | 0x00#6 => writeCmd w s
  | 0x04#6 => clearSticky w s
  | 0x0C#6 => { s with cfgPins := Pins.ofWord w }
  | 0x10#6 => { s with cfgDelay := w }
  | 0x14#6 => { s with cfgOpt := Options.ofWord w }
  | _ => s

/-- One Host step. A read leaves its value in `reg_rdata` and changes nothing else (20_memory.md R67). While
`rst_ni` is 0 a write changes nothing (70_reset_and_hazards.md R230). -/
def hostAccess (a : HostAccess) (s : State) : State :=
  match a with
  | .read off => { s with rdata := readReg off s }
  | .write off w => if s.rstN then writeReg off w s else s

/-- The access the register port's signals present in a cycle, if any (40_interfaces.md R101). -/
def portAccess (regValid regWrite : Bool) (regAddr : BitVec 6) (regWdata : Word) : Option HostAccess :=
  if regValid then some (if regWrite then .write regAddr regWdata else .read regAddr) else none

/-- The window offset of a platform address, if it lies in the window (20_memory.md R61). -/
def windowOffset (addr : Nat) : Option (BitVec 6) :=
  if Config.windowBase ≤ addr ∧ addr < Config.windowBase + 64 then
    some (BitVec.ofNat 6 (addr - Config.windowBase))
  else none

/-- What a platform bus that carries words as bytes sees at byte lane `k` of the register at an offset
(20_memory.md R64). -/
def readByte (off : BitVec 6) (k : Nat) (s : State) : Byte := byteLane (readReg off s) k

/-- The pseudo-instructions SETUP, READ, READ_BOTH and TEARDOWN: a write of the command's word to CMD
(30_encoding.md R91). -/
def issue (i : Instr) : HostAccess := .write 0x00 (encode i)

/-- The pseudo-instruction CLRFLAGS (30_encoding.md R91). -/
def clrFlags : HostAccess := .write 0x04 0x00000700

/-- The pseudo-instruction PINS (30_encoding.md R91). -/
def setPins (p : Pins) : HostAccess := .write 0x0C p.toWord

end Sys2Proof.Machine
end

