-- ==== Sys2Proof/Machine/Control.lean ====
section
/-! DEFINITION. The moves of the agents: reset, the Controller's turn with its fetch of CUR, the host's
accesses, late answers; and how a command word is placed for the next step. -/

namespace Sys2Proof.Machine

open Sys2Proof

/-- What `rst_ni` = 0 does: every register and hidden item takes its reset value, no event is issued, no
completion runs (10_state.md R43, 70_reset_and_hazards.md R230 to R232). An operation that was taken and not
answered stays in the trace without an answer (40_interfaces.md R110; log 8), and leaves an answer owed
(R232; log 9). The moves and replies to come and the parameter PIN_VALID are not the block's and stay
(logs 2, 4, 6); the value the host last read is `reg_rdata`, which the model keeps (log 7). -/
def hardReset (s : State) : State :=
  { State.reset with
    orphans := if s.handshake = .taken then s.orphans + 1 else s.orphans
    rstN := s.rstN
    rdata := s.rdata
    agenda := s.agenda
    replies := s.replies
    draws := s.draws
    invalidPins := s.invalidPins
    trace := eventTrace s }

/-- `rst_ni` driven to a level (70_reset_and_hazards.md R230). -/
def driveReset (level : Bool) (s : State) : State :=
  if level then { s with rstN := true } else hardReset { s with rstN := false }

/-- The Controller's turn: it decodes CUR and takes its next step of that command; an unassigned OP ends in
ILLEGAL_COMMAND (41_command_engine.md R122, R123, R127). -/
def controllerTurn (s : State) : Host.Outcome State Fault Refusal :=
  match decode s.cur with
  | .ok i => exec i s
  | .error _ => .next (illegalStep s)

/-- An answer that arrives while none is awaited: the one owed for an operation that a reset cut off is
ignored (70_reset_and_hazards.md R232); any other is outside the port contract
(93_implementation_defined.md I11; log 9). -/
def strayAnswer (s : State) : Host.Outcome State Fault Refusal :=
  match s.orphans with
  | n + 1 => .next { s with orphans := n }
  | 0 => .refused .unsolicitedPinAnswer

/-- One move of one agent (00_scope.md R10, 20_memory.md R69). -/
def performMove (m : Move) (s : State) : Host.Outcome State Fault Refusal :=
  match m with
  | .controller => controllerTurn s
  | .host a => .next (hostAccess a s)
  | .rst level => .next (driveReset level s)
  | .strayAnswer _ => strayAnswer s

/-- While `rst_ni` is 0 every piece of state has its reset value (40_interfaces.md R100; log 25). -/
def underReset (s : State) : State := if s.rstN then s else hardReset s

/-- The move whose turn it is: the agenda's oldest, else the Controller's (log 2). -/
def nextMove (s : State) : Move :=
  match s.agenda with
  | m :: _ => m
  | [] => .controller

/-- The state once that move is off the agenda. -/
def takeMove (s : State) : State := { s with agenda := s.agenda.tail }

/-- One step of the machine: one atomic step of one agent. -/
def stepOnce (s : State) : Host.Outcome State Fault Refusal :=
  performMove (nextMove s) (takeMove (underReset s))

/-- The state in which a command word has been accepted and the Controller moves next: the host's write of
R120, then the Controller's turn (log 3). -/
def placeCommand (w : Word) (s : State) : State :=
  { accept w s with rstN := true, agenda := .controller :: s.agenda }

end Sys2Proof.Machine
end

