-- ==== Sys2Proof/Machine/Step.lean ====
section
/-! DEFINITION. The step of the machine and the placing of an instruction where the next step runs it. -/

namespace Sys2Proof.Machine

open Sys2Proof

/-- One step: one atomic step of the agent whose turn it is (00_scope.md R10, 20_memory.md R69). -/
def step (s : State) : Host.Outcome State Fault Refusal := Sys2Proof.Machine.stepOnce s

/-- `s` with the instruction of an opcode-table row accepted as a command and the Controller to move, so that
the next step runs it (log 3). -/
def State.withFetchWord (s : State) (nbits w : Nat) : State :=
  Sys2Proof.Machine.placeCommand (tableWord nbits w) s

end Sys2Proof.Machine
end

