-- ==== Sys2Proof/Safety.lean ====
section
/-! DEFINITION. What claims are stated in: pin ownership, the counts and pacing of event lists, the least
time of a trace, progress, the Pin Controller's contract as a view of the trace, and the machine's invariant. -/

namespace Sys2Proof.Machine

open Sys2Proof

/-- A step is safe when it answers a next state: BBSPI has no faults, and the one refusal is of a run outside
the Pin Controller's contract (60_exceptions.md R211, 93_implementation_defined.md I11). -/
def StepSafe (s : State) : Prop := ∃ t, step s = .next t

/-! ## Ownership -/

/-- The three pins of an assignment (10_state.md R41). -/
def Pins.all (a : Pins) : List PinId := [a.csPin, a.clkPin, a.dioPin]

/-- The pins that remaining events still release: the block's claim on each ends with its RELEASE
(40_interfaces.md R103, R111). -/
def releasesLeft (q : List (Event × Tag)) : List PinId :=
  q.filterMap fun x => match x.1 with
    | .release p => some p
    | _ => none

/-- Is the configuration of pin `p` by a SETUP still to come (42_lifecycle.md R142)? -/
def claimLeft (p : PinId) (q : List (Event × Tag)) : Bool :=
  q.contains (.cfgOut p true, .normal) || q.contains (.cfgOut p false, .normal)

/-- The pins in the block's hands in the middle of a SETUP or TEARDOWN: those it has still to release, which
are the old pins of a SETUP from IDLE, then those of the new pins a SETUP has configured already
(10_state.md R41; log 27). -/
def ownedMidCommand (s : State) : List PinId :=
  releasesLeft s.seq ++
    if opField s.cur = 0x1#4 ∧ s.aborted = false
    then s.actPins.all.filter (fun p => !claimLeft p s.seq) else []

/-- The pins the block owns: those of ACT_PINS in IDLE and IN_TRANSACTION, none in UNINITIALIZED and RELEASED,
but for the middle of a SETUP or TEARDOWN, while pins are claimed and released (10_state.md R41; log 27). -/
def ownedPins (s : State) : List PinId :=
  if s.phase = .run ∧ isReadWord s.cur = false then ownedMidCommand s
  else match s.state with
    | .idle => s.actPins.all
    | .inTransaction => s.actPins.all
    | .uninitialized => []
    | .released => []

/-- The premise a claim about the converter's answers takes (70_reset_and_hazards.md R238). -/
def ConverterTimingMet (s : State) : Prop := Config.tConvMinNs ≤ s.actDelay.toNat

/-! ## The register window -/

/-- The nine mapped offsets (10_state.md R21). -/
def mappedOffsets : List (BitVec 6) := [0x00, 0x04, 0x08, 0x0C, 0x10, 0x14, 0x18, 0x1C, 0x20]

/-- The bits of a window offset that are no reserved bits; none at an unmapped offset
(10_state.md R22, R23, R30, R36 to R39). -/
def definedBits (off : BitVec 6) : Word :=
  match off with
  | 0x00#6 => 0x0000FF0F#32
  | 0x04#6 => 0x00000777#32
  | 0x08#6 => 0x07FFFFFF#32
  | 0x0C#6 => 0x01FFFFFF#32
  | 0x10#6 => 0xFFFFFFFF#32
  | 0x14#6 => 0x00000003#32
  | 0x18#6 => 0x01FFFFFF#32
  | 0x1C#6 => 0xFFFFFFFF#32
  | 0x20#6 => 0x00000003#32
  | _ => 0#32

/-- The move at hand puts or keeps the block in reset (70_reset_and_hazards.md R230, R232). -/
def ResetMove (s : State) : Prop := s.rstN = false ∨ nextMove s = .rst false

/-- It is the Controller's turn and the block is not in reset. -/
def ControllerMoves (s : State) : Prop := s.rstN = true ∧ nextMove s = .controller

/-! ## Event lists and traces -/

/-- The pin operations of an event list (43_transaction.md R177). -/
def pinOps (l : List Event) : List Event := l.filter Event.isPinOp

/-- The Reads of an event list. -/
def readOps (l : List Event) : List Event := l.filter Event.isRead

/-- The nanoseconds an event waits at least (40_interfaces.md R107). -/
def Event.minNanos : Event → Nat
  | .delay ns => ns.toNat
  | _ => 0

/-- The least time of an event list: the sum of its delays (43_transaction.md R177). -/
def minNanos (l : List Event) : Nat := (l.map Event.minNanos).sum

/-- Does an event list begin with a Delay? -/
def startsWithDelay : List Event → Bool
  | .delay _ :: _ => true
  | _ => false

/-- A Delay follows at once every signal transition, and nothing else (40_interfaces.md R109). -/
def paced : List Event → Bool
  | [] => true
  | e :: rest => (e.isTransition == startsWithDelay rest) && paced rest

/-- A pin operation of a trace that succeeded, or a Delay; an operation without an answer has not succeeded
(40_interfaces.md R103, R104). -/
def TraceEntry.succeeded (t : TraceEntry) : Bool :=
  match t.answer with
  | some a => !a.err
  | none => !t.event.isPinOp

/-! ## Progress -/

/-- Is the reply an answer, and not a wait? -/
def isAnswer : PinReply → Bool
  | .answered _ => true
  | .notReady => false
  | .pending => false

/-- The Controller's next step is a pin operation that the Pin Controller does not answer in this turn
(40_interfaces.md R102, 41_command_engine.md R129). -/
def AwaitsAnswer (s : State) : Prop :=
  s.phase = .run ∧ (∃ e tag rest, s.seq = (e, tag) :: rest ∧ e.isPinOp = true) ∧
    isAnswer (nextReply s) = false

/-- The events an abort can still add: 12 while a NORMAL event is left (41_command_engine.md R124 to R126). -/
def abortEventsLeft (q : List (Event × Tag)) : Nat :=
  if q.any (fun x => decide (x.2 = .normal)) then 12 else 0

/-- The most Controller steps a command can still take, waits apart: its events, those of an abort, and its
completion step (41_command_engine.md R129). At a check step: a transaction's 112 events, those 12, the
completion step and the check step. -/
def turnsLeft (s : State) : Nat :=
  match s.phase with
  | .none => 0
  | .check => 126
  | .run => s.seq.length + abortEventsLeft s.seq + 1

/-! ## The Pin Controller's contract -/

/-- What the contract of 40_interfaces.md R103 requires of one pin. -/
inductive PinView where
  /-- The spec does not say. -/
  | unknown
  | output (level : Bool)
  | input
  /-- Not driven and not owned. -/
  | released
  deriving DecidableEq, Repr

/-- The required state of pin `p` after one trace entry, from what it was before. An operation on `p` that
failed or was not answered leaves it unknown (40_interfaces.md R103; log 23). DESIGN CHOICE (log 26): two
different identifiers are taken for two different pins, so an operation on one leaves the view of the other;
the spec never says that RESOLVE is injective. -/
def PinView.after (p : PinId) (v : PinView) (t : TraceEntry) : PinView :=
  match t.event with
  | .cfgOut q l => if q = p then (if t.succeeded then .output l else .unknown) else v
  | .cfgIn q => if q = p then (if t.succeeded then .input else .unknown) else v
  | .write q l => if q = p then (if t.succeeded then .output l else .unknown) else v
  | .read q => if q = p then (if t.succeeded then v else .unknown) else v
  | .release q => if q = p then (if t.succeeded then .released else .unknown) else v
  | .delay _ => v

/-- The required state of pin `p` after a trace, from an unknown start (40_interfaces.md R103). -/
def pinView (p : PinId) (trace : List TraceEntry) : PinView := trace.foldl (PinView.after p) .unknown

/-! ## The invariant -/

/-- The number of Reads among tagged events. -/
def readsLeft (l : List (Event × Tag)) : Nat := (readOps (l.map Prod.fst)).length

/-- What holds of the machine after reset and after every step. -/
structure Inv (s : State) : Prop where
  /-- BUSY is 1 exactly while a command is in progress (10_state.md R25). -/
  busy_iff : s.busy = true ↔ s.phase ≠ .none
  /-- CMD and CUR hold the same word, with reserved bits 0 (41_command_engine.md R120). -/
  cur_eq : s.cur = s.cmd
  cmd_clean : acceptedWord s.cmd = s.cmd
  /-- Events remain only in RUN (10_state.md R40). -/
  seq_run : s.phase ≠ .run → s.seq = []
  /-- A command in RUN passed its check, so its OP is assigned (41_command_engine.md R122). -/
  run_assigned : s.phase = .run → ∃ i, decode s.cur = .ok i
  /-- The port waits only for the first event, a pin operation (40_interfaces.md R102). -/
  waiting : s.handshake ≠ .idle → s.phase = .run ∧ ∃ e tag rest, s.seq = (e, tag) :: rest ∧ e.isPinOp = true
  /-- STATE is IN_TRANSACTION exactly from a read's check step to its completion (10_state.md R24). -/
  transaction_iff : s.state = .inTransaction ↔ s.phase = .run ∧ isReadWord s.cur = true
  /-- An unaborted TEARDOWN ends in RELEASED and every other unaborted command in IDLE
  (42_lifecycle.md R141, R150; 43_transaction.md R160). -/
  next_state : s.phase = .run → s.aborted = false →
    s.nextState = if opField s.cur = 0x4#4 then .released else .idle
  /-- Only RELEASE events follow an abort, and it ends in RELEASED (41_command_engine.md R126). -/
  aborted_run : s.phase = .run → s.aborted = true →
    s.nextState = .released ∧ ∀ x ∈ s.seq, x.2 = .release
  /-- A safe release holds no Read (40_interfaces.md R111). -/
  release_reads : ∀ x ∈ s.seq, x.2 = .release → x.1.isRead = false
  /-- A TEARDOWN has only RELEASE events and is never aborted (42_lifecycle.md R150, 60_exceptions.md R206). -/
  teardown_run : s.phase = .run → opField s.cur = 0x4#4 →
    s.aborted = false ∧ ∀ x ∈ s.seq, x.2 = .release
  /-- NREAD lies in 0 to 16 (10_state.md R40). -/
  nread_le : s.nread ≤ 16
  /-- The Reads done and to come of an unaborted transaction are 16 (43_transaction.md R176). -/
  nread_reads : s.phase = .run → isReadWord s.cur = true → s.aborted = false → s.nread + readsLeft s.seq = 16
  /-- The active pins are pairwise distinct once they are owned or about to be (10_state.md R36, R41). -/
  pins_distinct : s.state = .idle ∨ s.state = .inTransaction ∨ (s.phase = .run ∧ s.nextState = .idle) →
    s.actPins.distinct = true
  /-- A Delay follows exactly the signal transitions (40_interfaces.md R109). -/
  seq_paced : paced (s.seq.map Prod.fst) = true
  /-- MATCH is the comparison of FIRST and SECOND, and SAMPLE is FIRST, or 0 on a mismatch
  (10_state.md R33, 43_transaction.md R173). -/
  result_valid : s.result.valid = true →
    (s.result.matched = true ↔ s.result.first = s.result.second) ∧
    (s.result.sample = s.result.first ∨ (s.result.matched = false ∧ s.result.sample = 0))
  /-- While `rst_ni` is 0 every register and hidden item has its reset value (70_reset_and_hazards.md R230). -/
  under_reset : s.rstN = false → hardReset s = s

end Sys2Proof.Machine
end

