-- ==== Sys2Proof/Certificates/Slice0/Obligations.lean ====
section
/-! DEFINITION. The statements for the provers. Each docstring names the rules of spec/ it formalises. -/

open Sys2Proof Sys2Proof.Machine

/-! ## Encoding -/

/-- 30_encoding.md section 1, 20_memory.md section 2: the decoder reads every well-formed command back from
its word, and from its bytes whatever follows them. -/
def Obligations.DecodeEncodeRoundTrip : Prop :=
  ∀ (i : Instr) (rest : List Byte), i.WellFormed →
    decode (encode i) = .ok i ∧ decodeBytes (encodeBytes i ++ rest) = .ok (i, rest)

/-- 30_encoding.md section 1: a decoded command is well-formed, and its word is the given one with the bits
its form ignores cleared. -/
def Obligations.EncodeDecodeCanonical : Prop :=
  ∀ (w : Word) (i : Instr), decode w = .ok i →
    i.WellFormed ∧ encode i = w &&& (if isReadWord w then 0x0000FF0F#32 else 0x0000000F#32)

/-- 30_encoding.md section 1, the opcode map: which OP is which command, and the channel operand as the number
CMD[15:8]; every other OP is rejected by name. -/
def Obligations.OpcodeMap : Prop :=
  ∀ w : Word,
    (w.toNat % 16 = 1 → decode w = .ok .setup) ∧
    (w.toNat % 16 = 2 → decode w = .ok (.read (w.toNat / 256 % 256))) ∧
    (w.toNat % 16 = 3 → decode w = .ok (.readBoth (w.toNat / 256 % 256))) ∧
    (w.toNat % 16 = 4 → decode w = .ok .teardown) ∧
    (w.toNat % 16 = 0 ∨ 5 ≤ w.toNat % 16 → decode w = .error (.unassignedOp (opField w)))

/-- R83: the reserved bits of a command word are ignored by decoding and by the write of CMD, CMD reads them
back as 0, and only bits 3:0 select the command. -/
def Obligations.ReservedCommandBitsIgnored : Prop :=
  ∀ (w : Word) (s : State),
    decode w = decode (w &&& 0x0000FF0F#32) ∧
    opField w = opField (w &&& 0x0000000F#32) ∧
    hostAccess (.write 0x00 w) s = hostAccess (.write 0x00 (w &&& 0x0000FF0F#32)) s ∧
    (s.rstN = true → s.busy = false →
      readReg 0x00 (hostAccess (.write 0x00 w) s) = w &&& 0x0000FF0F#32)

/-- 30_encoding.md section 4 (R92, an inference of the spec): the encoded examples, encoded and decoded. -/
def Obligations.SpecExampleWords : Prop :=
  (encode .setup = 0x00000001 ∧ decode 0x00000001 = .ok .setup) ∧
  (encode (.read 0) = 0x00000002 ∧ decode 0x00000002 = .ok (.read 0)) ∧
  (encode (.read 1) = 0x00000102 ∧ decode 0x00000102 = .ok (.read 1)) ∧
  (encode (.read 2) = 0x00000202 ∧ decode 0x00000202 = .ok (.read 2)) ∧
  (encode (.readBoth 0) = 0x00000003 ∧ decode 0x00000003 = .ok (.readBoth 0)) ∧
  (encode (.readBoth 1) = 0x00000103 ∧ decode 0x00000103 = .ok (.readBoth 1)) ∧
  (encode .teardown = 0x00000004 ∧ decode 0x00000004 = .ok .teardown) ∧
  setPins ⟨17, 18, 27, .bcm⟩ = .write 0x0C 0x001B1211 ∧
  (HostAccess.write 0x10 2000 = .write 0x10 0x000007D0)

/-! ## The step -/

/-- 41_command_engine.md section 2: on the Controller's turn, with CUR a command, the step is exec of that
command; the move comes off the agenda. -/
def Obligations.StepRunsDecodedCommand : Prop :=
  ∀ (s : State) (i : Instr), ControllerMoves s → decode s.cur = .ok i →
    step s = exec i { s with agenda := s.agenda.tail }

/-- The model's placing of a word (log 3): the next step runs exactly the instruction the word spells, in the
state the acceptance of the word leaves (41_command_engine.md section 1). -/
def Obligations.PlacedWordRunsNext : Prop :=
  ∀ (s : State) (nbits w : Nat) (i : Instr), decodeTableWord nbits w = some i →
    step (s.withFetchWord nbits w) = exec i (accept (tableWord nbits w) { s with rstN := true })

/-- R84, R205: an accepted word with an unassigned OP completes with ILLEGAL_COMMAND at its check step, in
every STATE, and changes nothing else: as one check step, and as the write of CMD and the Controller's turn
after it. The four assigned commands never raise it. -/
def Obligations.IllegalCommandCompletes : Prop :=
  (∀ s : State, ControllerMoves s → s.phase = .check →
    opField s.cur ∉ ([0x1, 0x2, 0x3, 0x4] : List (BitVec 4)) →
    step s = .next { s with
      agenda := s.agenda.tail, err := .illegalCommand, busy := false, phase := .none }) ∧
  (∀ (s : State) (w : Word), s.rstN = true → s.busy = false → s.agenda = [.host (.write 0x00 w)] →
    w.toNat % 16 ∉ ([1, 2, 3, 4] : List Nat) →
    Host.Core.run Sys2Proof.core 2 s = .next { s with
      agenda := [], cmd := w &&& 0x0000FF0F#32, cur := w &&& 0x0000FF0F#32, err := .illegalCommand
      busy := false, phase := .none }) ∧
  (∀ (i : Instr) (s t : State), exec i s = .next t → t.err = .illegalCommand → s.err = .illegalCommand)

/-- 60_exceptions.md section 4 and 41_command_engine.md section 6: with no command in progress the
Controller's turn changes nothing. -/
def Obligations.IdleControllerChangesNothing : Prop :=
  ∀ s : State, ControllerMoves s → s.phase = .none → step s = .next { s with agenda := s.agenda.tail }

/-- 60_exceptions.md section 2 (no traps): a step answers a next state, but for an answer of the Pin
Controller that no request awaits; one that is owed is ignored, under reset too, and one that is not log 9
refuses. -/
def Obligations.EveryStepAnswersNext : Prop :=
  ∀ s : State, ((∀ a, nextMove s ≠ .strayAnswer a) ∨ 0 < s.orphans) → StepSafe s

/-! ## Acceptance -/

/-- R120: a write of CMD while BUSY = 0 is accepted, changes CMD, CUR, BUSY and PHASE and nothing else, and
STATUS at once reads BUSY = 1; no other host access starts a command. -/
def Obligations.CmdWriteAccepted : Prop :=
  (∀ (s : State) (w : Word), s.rstN = true → nextMove s = .host (.write 0x00 w) → s.busy = false →
    step s = .next { s with
      agenda := s.agenda.tail, cmd := w &&& 0x0000FF0F#32, cur := w &&& 0x0000FF0F#32, busy := true,
      phase := .check } ∧
    (readReg 0x04 { s with
      agenda := s.agenda.tail, cmd := w &&& 0x0000FF0F#32, cur := w &&& 0x0000FF0F#32, busy := true,
      phase := .check }).getLsbD 2 = true) ∧
  (∀ (s : State) (a : HostAccess), (∀ w, a ≠ .write 0x00 w) →
    (hostAccess a s).phase = s.phase ∧ (hostAccess a s).busy = s.busy ∧ (hostAccess a s).cur = s.cur)

/-- R121: a write of CMD while BUSY = 1 sets OVR and changes nothing else. -/
def Obligations.CmdWriteWhileBusyDropped : Prop :=
  ∀ (s : State) (w : Word), s.rstN = true → nextMove s = .host (.write 0x00 w) → s.busy = true →
    step s = .next { s with agenda := s.agenda.tail, ovr := true }

/-! ## SETUP -/

/-- 42_lifecycle.md section 1, 10_state.md sections 6 and 7: SETUP's check step with three distinct valid pins,
when STATE is not IDLE: the staged configuration is snapped and made active, so that ACT_PINS, ACT_DELAY and
ACT_OPT read as CFG_PINS, CFG_DELAY and CFG_OPT, and the six configuration events begin; no pin is owned yet
(log 27). -/
def Obligations.SetupStartsUnowned : Prop :=
  ∀ s : State, s.phase = .check → s.state ≠ .idle →
    s.cfgPins.cs ≠ s.cfgPins.clk → s.cfgPins.cs ≠ s.cfgPins.dio → s.cfgPins.clk ≠ s.cfgPins.dio →
    (∀ p ∈ s.invalidPins, p ≠ s.cfgPins.csPin ∧ p ≠ s.cfgPins.clkPin ∧ p ≠ s.cfgPins.dioPin) →
    ∃ t, exec .setup s = .next t ∧
      readReg 0x18 t = readReg 0x0C s ∧ readReg 0x1C t = readReg 0x10 s ∧
      readReg 0x20 t = readReg 0x14 s ∧
      (decode s.cur = .ok .setup → ownedPins t = []) ∧ t = { s with
      aborted := false, snap := ⟨s.cfgPins, s.cfgDelay, s.cfgOpt⟩
      actPins := s.cfgPins, actDelay := s.cfgDelay, actOpt := s.cfgOpt
      seq := [(.cfgOut s.cfgPins.csPin true, .normal), (.delay s.cfgDelay, .normal),
              (.cfgOut s.cfgPins.clkPin false, .normal), (.delay s.cfgDelay, .normal),
              (.cfgOut s.cfgPins.dioPin false, .normal), (.delay s.cfgDelay, .normal)]
      nextState := .idle, phase := .run }

/-- 42_lifecycle.md section 1, 10_state.md sections 6 and 7: SETUP's check step from IDLE: the same, with the
safe release of the old pins under the old delay before the configuration of the new ones, 18 events in all;
the old pins are still the owned ones (log 27). -/
def Obligations.SetupStartsFromIdle : Prop :=
  ∀ s : State, s.phase = .check → s.state = .idle →
    s.cfgPins.cs ≠ s.cfgPins.clk → s.cfgPins.cs ≠ s.cfgPins.dio → s.cfgPins.clk ≠ s.cfgPins.dio →
    (∀ p ∈ s.invalidPins, p ≠ s.cfgPins.csPin ∧ p ≠ s.cfgPins.clkPin ∧ p ≠ s.cfgPins.dioPin) →
    ∃ t, exec .setup s = .next t ∧
      readReg 0x18 t = readReg 0x0C s ∧ readReg 0x1C t = readReg 0x10 s ∧
      readReg 0x20 t = readReg 0x14 s ∧
      (decode s.cur = .ok .setup → ownedPins t = [s.actPins.csPin, s.actPins.clkPin, s.actPins.dioPin]) ∧
      t = { s with
      aborted := false, snap := ⟨s.cfgPins, s.cfgDelay, s.cfgOpt⟩
      actPins := s.cfgPins, actDelay := s.cfgDelay, actOpt := s.cfgOpt
      seq := [(.cfgOut s.actPins.csPin true, .release), (.delay s.actDelay, .release),
              (.cfgOut s.actPins.clkPin false, .release), (.delay s.actDelay, .release),
              (.cfgOut s.actPins.dioPin false, .release), (.delay s.actDelay, .release),
              (.release s.actPins.csPin, .release), (.delay s.actDelay, .release),
              (.release s.actPins.clkPin, .release), (.delay s.actDelay, .release),
              (.release s.actPins.dioPin, .release), (.delay s.actDelay, .release),
              (.cfgOut s.cfgPins.csPin true, .normal), (.delay s.cfgDelay, .normal),
              (.cfgOut s.cfgPins.clkPin false, .normal), (.delay s.cfgDelay, .normal),
              (.cfgOut s.cfgPins.dioPin false, .normal), (.delay s.cfgDelay, .normal)]
      nextState := .idle, phase := .run }

/-- 60_exceptions.md section 1 (R202): a SETUP whose CFG_PINS has two equal identifiers, or one for which
PIN_VALID is false, completes with CONFIGURATION_ERROR; no register but ERR and BUSY changes, and CFG_PINS
still reads as the offending value. That ABORTED becomes 0 at a check step that fails is the model's reading,
log 11 (DEDUCED). -/
def Obligations.SetupRejectsBadPins : Prop :=
  ∀ s : State, s.phase = .check →
    (s.cfgPins.cs = s.cfgPins.clk ∨ s.cfgPins.cs = s.cfgPins.dio ∨ s.cfgPins.clk = s.cfgPins.dio ∨
      s.cfgPins.csPin ∈ s.invalidPins ∨ s.cfgPins.clkPin ∈ s.invalidPins ∨
      s.cfgPins.dioPin ∈ s.invalidPins) →
    ∃ t, exec .setup s = .next t ∧
      t = { s with aborted := false, err := .configurationError, busy := false, phase := .none } ∧
      readReg 0x0C t = readReg 0x0C s

/-! ## READ and READ_BOTH -/

/-- 43_transaction.md section 1: the check step of a READ or READ_BOTH on channel 0 or 1 in IDLE starts one
transaction of NORMAL events on the active pins. -/
def Obligations.ReadsStartTransaction : Prop :=
  ∀ (s : State) (ch : Nat) (i : Instr), i = .read ch ∨ i = .readBoth ch → s.phase = .check →
    s.state = .idle → ch < 2 →
    exec i s = .next { s with
      aborted := false, sr := 0, nread := 0, state := .inTransaction
      seq := (transactionEvents ch s.actPins s.actDelay).map (fun e => (e, Tag.normal))
      nextState := .idle, phase := .run }

/-- 60_exceptions.md section 1 (R203, R204, R210): the reads are rejected with NOT_INITIALIZED outside IDLE,
whatever the channel, and then with INVALID_CHANNEL for a channel of 2 or more; no register but ERR and BUSY
changes, and CMD still reads the channel. SETUP and TEARDOWN never raise NOT_INITIALIZED. That ABORTED becomes
0 at a check step that fails is the model's reading, log 11 (DEDUCED). -/
def Obligations.ReadsRejected : Prop :=
  (∀ (s : State) (ch : Nat) (i : Instr), i = .read ch ∨ i = .readBoth ch → s.phase = .check →
    (s.state ≠ .idle → exec i s = .next { s with
      aborted := false, err := .notInitialized, busy := false, phase := .none }) ∧
    (s.state = .idle → 2 ≤ ch → exec i s = .next { s with
      aborted := false, err := .invalidChannel, busy := false, phase := .none }) ∧
    (decode s.cmd = .ok i → ∀ t, exec i s = .next t → (readReg 0x00 t).toNat / 256 = ch)) ∧
  (∀ (s t : State) (i : Instr), i = .setup ∨ i = .teardown → exec i s = .next t → t.err ≠ s.err →
    t.err ≠ .notInitialized)

/-- 43_transaction.md sections 3 and 4 (R170 to R174), 41_command_engine.md section 5: the completion step of an
unaborted READ or READ_BOTH. The first eight levels make FIRST, most significant first; the last eight make
SECOND in the order SECOND_LSB selects; SAMPLE is FIRST, or 0 on a mismatch under MISMATCH_ZERO; a mismatch
sets GLITCH and MATCH = 0 with ERR = OK. That KIND comes from the command exec is given and not from CUR[3:0]
is the model's reading, log 18 (DEDUCED). -/
def Obligations.ReadsCompleteWithResult : Prop :=
  ∀ (s : State) (ch : Nat) (i : Instr), i = .read ch ∨ i = .readBoth ch → s.phase = .run → s.seq = [] →
    s.aborted = false →
    ∃ first second : Byte,
      (∀ k, k < 8 → first.getLsbD (7 - k) = s.sr.getLsbD k) ∧
      (∀ k, k < 8 → second.getLsbD (if s.actOpt.secondLsb then k else 7 - k) = s.sr.getLsbD (8 + k)) ∧
      exec i s = .next { s with
        result :=
          { sample := if first = second then first else if s.actOpt.mismatchZero then 0 else first
            first := first, second := second, matched := decide (first = second)
            kind := decide (i = .readBoth ch), valid := true }
        glitch := s.glitch || decide (first ≠ second)
        err := .ok, state := s.nextState, busy := false, phase := .none }

/-- 10_state.md section 5 (R34): a completed READ writes KIND 0 and a completed READ_BOTH KIND 1, and that is
the only difference between their steps from the same state. Both are run from one state, so from one CUR:
that KIND comes from the command exec is given and not from CUR[3:0] is the model's reading, log 18
(DEDUCED). -/
def Obligations.KindIsTheOnlyDifference : Prop :=
  ∀ (s t u : State) (ch : Nat), exec (.read ch) s = .next t → exec (.readBoth ch) s = .next u →
    u = { t with result := { t.result with kind := u.result.kind } } ∧
    (s.phase = .run → s.seq = [] → s.aborted = false → t.result.kind = false ∧ u.result.kind = true)

/-- 43_transaction.md sections 2 and 5: a transaction on distinct pins: its counts and its least time, and its
64 pin operations in order: select, the three control bits, the handover of the data pin, eight reads each
with the clock high between a rising and a falling edge, the gap pulse, eight reads more, the data pin back to
output and deselect. -/
def Obligations.TransactionCounts : Prop :=
  ∀ (ch : Nat) (a : Pins) (d : Word), a.distinct = true → ch < 2 →
    let l := transactionEvents ch a d
    l.length = 112 ∧ (pinOps l).length = 64 ∧ (readOps l).length = 16 ∧
    (l.filter (fun e => decide (e = .delay d))).length = 48 ∧ minNanos l = 48 * d.toNat ∧
    (l.filter (fun e => decide (e = .write a.clkPin true))).length = 20 ∧
    (l.filter (fun e => decide (e = .cfgIn a.dioPin))).length = 1 ∧
    (pinOps l).head? = some (.write a.csPin false) ∧ (pinOps l).getLast? = some (.write a.csPin true) ∧
    (pinOps l).take 12 =
      [.write a.csPin false, .write a.clkPin false,
       .write a.dioPin true, .write a.clkPin true, .write a.clkPin false,
       .write a.dioPin true, .write a.clkPin true, .write a.clkPin false,
       .write a.dioPin (decide (ch = 1)), .write a.clkPin true, .write a.clkPin false,
       .cfgIn a.dioPin] ∧
    readOps ((pinOps l).take 12) = [] ∧
    (∀ k, k < 8 → ((pinOps l).drop (12 + 3 * k)).take 3 =
      [.write a.clkPin true, .read a.dioPin, .write a.clkPin false]) ∧
    ((pinOps l).drop 36).take 2 = [.write a.clkPin true, .write a.clkPin false] ∧
    (∀ k, k < 8 → ((pinOps l).drop (38 + 3 * k)).take 3 =
      [.write a.clkPin true, .read a.dioPin, .write a.clkPin false]) ∧
    (pinOps l).drop 62 = [.cfgOut a.dioPin false, .write a.csPin true]

/-- 40_interfaces.md section 3: in every event list the block builds, a Delay follows at once every signal
transition and nothing else. -/
def Obligations.SequencesArePaced : Prop :=
  ∀ (ch : Nat) (a b : Pins) (d e : Word),
    paced (configureEvents a d) = true ∧ paced (safeReleaseEvents a d) = true ∧
    paced (safeReleaseEvents a d ++ configureEvents b e) = true ∧ paced (transactionEvents ch a d) = true

/-! ## TEARDOWN -/

/-- 42_lifecycle.md section 2: TEARDOWN's check step: from IDLE the twelve events of a safe release, from
UNINITIALIZED and RELEASED none; it never fails. The pins owned are still those it has to release
(10_state.md section 7; log 27). -/
def Obligations.TeardownStarts : Prop :=
  ∀ s : State, s.phase = .check →
    (s.state = .idle → exec .teardown s = .next { s with
      aborted := false
      seq := [(.cfgOut s.actPins.csPin true, .release), (.delay s.actDelay, .release),
              (.cfgOut s.actPins.clkPin false, .release), (.delay s.actDelay, .release),
              (.cfgOut s.actPins.dioPin false, .release), (.delay s.actDelay, .release),
              (.release s.actPins.csPin, .release), (.delay s.actDelay, .release),
              (.release s.actPins.clkPin, .release), (.delay s.actDelay, .release),
              (.release s.actPins.dioPin, .release), (.delay s.actDelay, .release)]
      nextState := .released, phase := .run }) ∧
    (s.state = .uninitialized ∨ s.state = .released → exec .teardown s = .next { s with
      aborted := false, seq := [], nextState := .released, phase := .run }) ∧
    (∀ t, decode s.cur = .ok .teardown → exec .teardown s = .next t →
      (s.state = .idle → ownedPins t = [s.actPins.csPin, s.actPins.clkPin, s.actPins.dioPin]) ∧
      (s.state = .uninitialized ∨ s.state = .released → ownedPins t = []))

/-! ## Events, abort, completion -/

/-- 41_command_engine.md section 3, 40_interfaces.md section 3: a Delay is one step of any command that takes
it off `seq` and changes nothing else (the trace is the observer's, the port is idle). -/
def Obligations.DelayStepOnlyAdvances : Prop :=
  ∀ (s : State) (i : Instr) (ns : Word) (tag : Tag) (rest : List (Event × Tag)), s.phase = .run →
    s.seq = (.delay ns, tag) :: rest →
    exec i s = .next { s with
      seq := rest, handshake := .idle, trace := s.trace ++ [⟨.delay ns, none⟩] }

/-- 41_command_engine.md section 3, 40_interfaces.md section 2: a pin operation other than READ answered with
err = 0 leaves `seq` and changes nothing else; its level is ignored. -/
def Obligations.PinOpSuccessAdvances : Prop :=
  ∀ (s : State) (i : Instr) (e : Event) (tag : Tag) (rest : List (Event × Tag)) (lvl : Bool),
    s.phase = .run → s.seq = (e, tag) :: rest → e.isPinOp = true → e.isRead = false →
    nextReply s = .answered ⟨lvl, false⟩ →
    exec i s = .next { consumeReply s with
      seq := rest, handshake := .idle, trace := s.trace ++ [⟨e, some ⟨lvl, false⟩⟩] }

/-- 41_command_engine.md section 3, 43_transaction.md section 2: a READ answered with err = 0 stores its level
in SR[NREAD], leaves the other levels, and counts NREAD up. -/
def Obligations.ReadLevelStored : Prop :=
  ∀ (s : State) (i : Instr) (p : PinId) (tag : Tag) (rest : List (Event × Tag)) (lvl : Bool),
    s.phase = .run → s.seq = (.read p, tag) :: rest → s.nread < 16 →
    nextReply s = .answered ⟨lvl, false⟩ →
    ∃ sr' : BitVec 16,
      (∀ k, k < 16 → sr'.getLsbD k = if k = s.nread then lvl else s.sr.getLsbD k) ∧
      exec i s = .next { consumeReply s with
        seq := rest, handshake := .idle, trace := s.trace ++ [⟨.read p, some ⟨lvl, false⟩⟩]
        sr := sr', nread := s.nread + 1 }

/-- R124: an answer err = 1 to a NORMAL event ends the command's own events: what remains is the safe release
of the active pins, ABORTED is 1 and the command is to end in RELEASED. -/
def Obligations.NormalErrorAborts : Prop :=
  ∀ (s : State) (i : Instr) (e : Event) (rest : List (Event × Tag)) (lvl : Bool),
    s.phase = .run → s.seq = (e, .normal) :: rest → e.isPinOp = true →
    nextReply s = .answered ⟨lvl, true⟩ →
    exec i s = .next { consumeReply s with
      handshake := .idle, trace := s.trace ++ [⟨e, some ⟨lvl, true⟩⟩]
      seq := [(.cfgOut s.actPins.csPin true, .release), (.delay s.actDelay, .release),
              (.cfgOut s.actPins.clkPin false, .release), (.delay s.actDelay, .release),
              (.cfgOut s.actPins.dioPin false, .release), (.delay s.actDelay, .release),
              (.release s.actPins.csPin, .release), (.delay s.actDelay, .release),
              (.release s.actPins.clkPin, .release), (.delay s.actDelay, .release),
              (.release s.actPins.dioPin, .release), (.delay s.actDelay, .release)]
      aborted := true, nextState := .released }

/-- R125: an answer err = 1 to a RELEASE event sets RELERR, and the command goes on as after a success that
answered no level. -/
def Obligations.ReleaseErrorGoesOn : Prop :=
  ∀ (s : State) (i : Instr) (e : Event) (rest : List (Event × Tag)) (lvl : Bool),
    s.phase = .run → s.seq = (e, .release) :: rest → e.isPinOp = true →
    nextReply s = .answered ⟨lvl, true⟩ →
    exec i s = .next { consumeReply s with
      seq := rest, handshake := .idle, trace := s.trace ++ [⟨e, some ⟨lvl, true⟩⟩], relerr := true }

/-- 70_reset_and_hazards.md section 3, 40_interfaces.md section 1: while the Pin Controller does not answer,
the Controller waits: BUSY, `seq` and every register stay, only the port's exchange moves, and an operation
once taken stays taken. -/
def Obligations.UnansweredOperationWaits : Prop :=
  ∀ (s : State) (i : Instr) (e : Event) (tag : Tag) (rest : List (Event × Tag)),
    s.phase = .run → s.seq = (e, tag) :: rest → e.isPinOp = true →
    (nextReply s = .notReady → s.handshake ≠ .taken →
      exec i s = .next { consumeReply s with handshake := .presented }) ∧
    (nextReply s = .notReady → s.handshake = .taken → exec i s = .next (consumeReply s)) ∧
    (nextReply s = .pending → exec i s = .next { consumeReply s with handshake := .taken })

/-- 40_interfaces.md section 1: a request presented and not taken shows the first event's fields at the port,
the same after any number of turns in which it is not taken. -/
def Obligations.PresentedRequestIsStable : Prop :=
  ∀ (s : State) (i : Instr) (e : Event) (tag : Tag) (rest : List (Event × Tag)),
    s.phase = .run → decode s.cur = .ok i → s.seq = (e, tag) :: rest → e.isPinOp = true →
    s.handshake ≠ .taken → ControllerMoves s → nextReply s = .notReady →
    ∃ t, step s = .next t ∧ pinRequest t = Event.request e ∧ t.seq = s.seq ∧ t.phase = .run

/-- 41_command_engine.md section 5: the completion step of an unaborted SETUP or TEARDOWN. -/
def Obligations.SetupTeardownComplete : Prop :=
  ∀ (s : State) (i : Instr), i = .setup ∨ i = .teardown → s.phase = .run → s.seq = [] →
    s.aborted = false →
    exec i s = .next { s with err := .ok, state := s.nextState, busy := false, phase := .none }

/-- 41_command_engine.md section 5, 60_exceptions.md section 1: the completion step of an aborted command:
BUS_ERROR, and RESULT, ACT_* and the sticky flags stay. -/
def Obligations.AbortedCommandCompletes : Prop :=
  ∀ (s : State) (i : Instr), s.phase = .run → s.seq = [] → s.aborted = true →
    exec i s = .next { s with err := .busError, state := s.nextState, busy := false, phase := .none }

/-! ## Host accesses -/

/-- 20_memory.md section 3: a host read returns the register's value and has no side effect, in every state
and while a command runs. -/
def Obligations.HostReadHasNoSideEffect : Prop :=
  ∀ (s : State) (off : BitVec 6), s.rstN = true → nextMove s = .host (.read off) →
    step s = .next { s with agenda := s.agenda.tail, rdata := readReg off s }

/-- 10_state.md sections 4 to 6, 60_exceptions.md section 1: every register but CMD as a number, field by
field, with the numbers of the four STATEs, the six result codes and the two numbering schemes. -/
def Obligations.StatusAndResultWords : Prop :=
  let pinsNumber (a : Pins) : Nat :=
    a.cs.toNat + 256 * a.clk.toNat + 65536 * a.dio.toNat + 2 ^ 24 * (decide (a.scheme = .board)).toNat
  let optNumber (o : Options) : Nat := o.secondLsb.toNat + 2 * o.mismatchZero.toNat
  ∀ s : State,
    (readReg 0x04 s).toNat =
      (match s.state with
        | .uninitialized => 0
        | .idle => 1
        | .inTransaction => 2
        | .released => 3) + 4 * s.busy.toNat +
      16 * (match s.err with
        | .ok => 0
        | .configurationError => 1
        | .invalidChannel => 2
        | .notInitialized => 3
        | .illegalCommand => 4
        | .busError => 5) +
      256 * s.glitch.toNat + 512 * s.relerr.toNat + 1024 * s.ovr.toNat ∧
    (readReg 0x08 s).toNat = s.result.sample.toNat + 256 * s.result.first.toNat +
      65536 * s.result.second.toNat + 2 ^ 24 * s.result.matched.toNat + 2 ^ 25 * s.result.kind.toNat +
      2 ^ 26 * s.result.valid.toNat ∧
    (readReg 0x0C s).toNat = pinsNumber s.cfgPins ∧ (readReg 0x18 s).toNat = pinsNumber s.actPins ∧
    readReg 0x10 s = s.cfgDelay ∧ readReg 0x1C s = s.actDelay ∧
    (readReg 0x14 s).toNat = optNumber s.cfgOpt ∧ (readReg 0x20 s).toNat = optNumber s.actOpt

/-- R44: every reserved bit of every register reads as 0 and a write to it is ignored; every bit of an
unmapped offset reads as 0. -/
def Obligations.ReservedBitsReadZero : Prop :=
  ∀ (s : State) (off : BitVec 6) (w : Word),
    readReg off s &&& ~~~(definedBits off) = 0 ∧
    writeReg off (w &&& definedBits off) s = writeReg off w s ∧
    (off ∉ mappedOffsets → definedBits off = 0)

/-- R65: an access at an offset that is not one of the nine, all multiples of 4, reads 0 and writes
nothing. -/
def Obligations.UnmappedAccessIsInert : Prop :=
  (∀ off : BitVec 6, off ∉ mappedOffsets ↔ 0x24 ≤ off.toNat ∨ off.toNat % 4 ≠ 0) ∧
  ∀ (s : State) (off : BitVec 6) (w : Word), off ∉ mappedOffsets →
    readReg off s = 0 ∧ hostAccess (.write off w) s = s

/-- R194: a write of RESULT, ACT_PINS, ACT_DELAY, ACT_OPT or an unmapped offset changes nothing. -/
def Obligations.ReadOnlyRegistersIgnoreWrites : Prop :=
  ∀ (s : State) (off : BitVec 6) (w : Word),
    off ∈ ([0x08, 0x18, 0x1C, 0x20] : List (BitVec 6)) ∨ off ∉ mappedOffsets →
    s.rstN = true → nextMove s = .host (.write off w) →
    step s = .next { s with agenda := s.agenda.tail }

/-- 44_register_access.md, write of STATUS: bits 8, 9 and 10 written as 1 clear GLITCH, RELERR and OVR, a 0
leaves them, and nothing else changes. -/
def Obligations.StatusWriteClearsFlags : Prop :=
  ∀ (s : State) (w : Word), s.rstN = true → nextMove s = .host (.write 0x04 w) →
    step s = .next { s with
      agenda := s.agenda.tail
      glitch := if w.getLsbD 8 = true then false else s.glitch
      relerr := if w.getLsbD 9 = true then false else s.relerr
      ovr := if w.getLsbD 10 = true then false else s.ovr }

/-- 44_register_access.md (R190, R193), 10_state.md section 6: a write of a configuration register stores its
fields from their bits, the register reads back with its reserved bits 0, whether a command runs or not, and
no other register or hidden item changes. -/
def Obligations.ConfigWriteReadsBack : Prop :=
  ∀ (s : State) (w : Word), s.rstN = true →
    (nextMove s = .host (.write 0x0C w) → ∃ t p, step s = .next t ∧
      t = { s with agenda := s.agenda.tail, cfgPins := p } ∧
      readReg 0x0C t = w &&& 0x01FFFFFF#32 ∧ p.toWord = w &&& 0x01FFFFFF#32 ∧
      p.cs = w.extractLsb' 0 8 ∧ p.clk = w.extractLsb' 8 8 ∧ p.dio = w.extractLsb' 16 8 ∧
      (p.scheme = .board ↔ w.getLsbD 24 = true)) ∧
    (nextMove s = .host (.write 0x10 w) → ∃ t, step s = .next t ∧
      t = { s with agenda := s.agenda.tail, cfgDelay := w } ∧ readReg 0x10 t = w) ∧
    (nextMove s = .host (.write 0x14 w) → ∃ t o, step s = .next t ∧
      t = { s with agenda := s.agenda.tail, cfgOpt := o } ∧
      readReg 0x14 t = w &&& 0x00000003#32 ∧ o.toWord = w &&& 0x00000003#32 ∧
      o.secondLsb = w.getLsbD 0 ∧ o.mismatchZero = w.getLsbD 1)

/-- 41_command_engine.md sections 1 and 6: while a command is in progress no host access changes anything but
the staged configuration, the sticky flags and the value read. -/
def Obligations.HostCannotTouchRunningCommand : Prop :=
  ∀ (s : State) (a : HostAccess), s.busy = true →
    { hostAccess a s with
      cfgPins := s.cfgPins, cfgDelay := s.cfgDelay, cfgOpt := s.cfgOpt
      glitch := s.glitch, relerr := s.relerr, ovr := s.ovr, rdata := s.rdata } = s

/-! ## Reset -/

/-- R43: every register and hidden item after reset, and what the nine registers read as. -/
def Obligations.ResetValues : Prop :=
  let s := State.reset
  readReg 0x00 s = 0 ∧ readReg 0x04 s = 0 ∧ readReg 0x08 s = 0 ∧ readReg 0x0C s = 0 ∧
  readReg 0x10 s = 0x000007D0 ∧ readReg 0x14 s = 0 ∧ readReg 0x18 s = 0 ∧ readReg 0x1C s = 0x000007D0 ∧
  readReg 0x20 s = 0 ∧ s.state = .uninitialized ∧ s.busy = false ∧ s.err = .ok ∧ s.result.valid = false ∧
  s.cfgPins.scheme = .bcm ∧ s.actPins.scheme = .bcm ∧
  s.phase = .none ∧ s.cur = 0 ∧ s.seq = [] ∧ s.aborted = false ∧ s.nextState.code = 0 ∧ s.sr = 0 ∧
  s.nread = 0 ∧ s.snap = ⟨s.cfgPins, s.cfgDelay, s.cfgOpt⟩

/-- 70_reset_and_hazards.md section 1: driving rst_ni low takes precedence over a command: every register and
hidden item takes its reset value, the rest of `seq` is dropped and no event is issued. The model's own
choices beside it: the last read data stays (log 7), the trace stays and keeps an operation that was taken
and not answered (log 8), which leaves its answer owed (log 9); the moves and replies to come and PIN_VALID
are the outside world's and stay (logs 2, 4, 6). -/
def Obligations.ResetTakesPrecedence : Prop :=
  ∀ s : State, s.rstN = true → nextMove s = .rst false →
    step s = .next { State.reset with
      orphans := if s.handshake = .taken then s.orphans + 1 else s.orphans
      rstN := false, rdata := s.rdata, agenda := s.agenda.tail, replies := s.replies, draws := s.draws
      invalidPins := s.invalidPins, trace := eventTrace s }

/-- R230: while rst_ni is 0 a host read returns the reset value and a host write changes nothing, every
register and hidden item holding its reset value; once rst_ni is 1 again the block is in UNINITIALIZED with
BUSY = 0 and runs nothing. -/
def Obligations.HeldInReset : Prop :=
  ∀ s : State, s.rstN = false →
    (∀ off, nextMove s = .host (.read off) → step s = .next { hardReset s with
      agenda := s.agenda.tail, rdata := readReg off State.reset }) ∧
    (∀ off w, nextMove s = .host (.write off w) → step s = .next { hardReset s with
      agenda := s.agenda.tail }) ∧
    (nextMove s = .controller → step s = .next { hardReset s with agenda := s.agenda.tail }) ∧
    (nextMove s = .rst true → ∃ t, step s = .next t ∧
      t = { hardReset s with agenda := s.agenda.tail, rstN := true } ∧
      t.state = .uninitialized ∧ t.busy = false ∧ t.phase = .none ∧
      (∀ off, readReg off t = readReg off State.reset) ∧
      ∀ w, (hostAccess (.write 0x00 w) t).phase = .check)

/-- 70_reset_and_hazards.md section 1 (the answer after a reset is ignored, whether rst_ni is still 0 or
back at 1), and the model's refusal of an answer without a request (log 9). -/
def Obligations.LateAnswerIgnored : Prop :=
  ∀ (s : State) (a : PinAnswer), nextMove s = .strayAnswer a →
    (s.rstN = true →
      (∀ n, s.orphans = n + 1 → step s = .next { s with agenda := s.agenda.tail, orphans := n }) ∧
      (s.orphans = 0 → step s = .refused .unsolicitedPinAnswer)) ∧
    (s.rstN = false →
      (∀ n, (hardReset s).orphans = n + 1 →
        step s = .next { hardReset s with agenda := s.agenda.tail, orphans := n }) ∧
      ((hardReset s).orphans = 0 → step s = .refused .unsolicitedPinAnswer)) ∧
    (hardReset s).orphans = (if s.handshake = .taken then s.orphans + 1 else s.orphans)

/-! ## Invariants and whole-machine rules -/

/-- The invariant holds after reset. -/
def Obligations.InvariantAtReset : Prop := Inv State.reset

/-- Every step keeps the invariant: BUSY exactly while a command is in progress, IN_TRANSACTION exactly while
a read runs, sixteen Reads a transaction, only RELEASE events after an abort, distinct owned pins, paced
events, and the reset values under reset. -/
def Obligations.InvariantKeptByEveryStep : Prop :=
  ∀ s t : State, Inv s → step s = .next t → Inv t

/-- R175: RESULT changes only at the completion step of an unaborted READ or READ_BOTH, and by reset. -/
def Obligations.ResultWrittenOnlyByReads : Prop :=
  ∀ s t : State, step s = .next t → t.result ≠ s.result →
    ResetMove s ∨
    (nextMove s = .controller ∧ s.phase = .run ∧ s.seq = [] ∧ s.aborted = false ∧ isReadWord s.cur = true)

/-- 10_state.md section 6: ACT_PINS, ACT_DELAY and ACT_OPT change only at the check step of a SETUP that
passes its checks, which makes them the staged values, and by reset. -/
def Obligations.ActiveConfigChangesOnlyAtSetup : Prop :=
  ∀ s t : State, step s = .next t →
    ¬(t.actPins = s.actPins ∧ t.actDelay = s.actDelay ∧ t.actOpt = s.actOpt) →
    ResetMove s ∨
    (nextMove s = .controller ∧ s.phase = .check ∧ decode s.cur = .ok .setup ∧
      t.actPins = s.cfgPins ∧ t.actDelay = s.cfgDelay ∧ t.actOpt = s.cfgOpt ∧
      t.actPins.distinct = true ∧ t.phase = .run)

/-- 10_state.md section 4: the lifecycle has no transition but those listed: to IDLE by an unaborted SETUP
from UNINITIALIZED or RELEASED, to IN_TRANSACTION at a read's check step from IDLE, back to IDLE at its
unaborted completion, to RELEASED at the completion of a TEARDOWN or of an aborted command, and to
UNINITIALIZED by reset. -/
def Obligations.LifecycleTransitions : Prop :=
  ∀ s t : State, Inv s → step s = .next t → t.state ≠ s.state →
    (ResetMove s ∧ t.state = .uninitialized) ∨
    (ControllerMoves s ∧ (
      (s.phase = .run ∧ s.seq = [] ∧ s.aborted = false ∧ decode s.cur = .ok .setup ∧ t.state = .idle ∧
        (s.state = .uninitialized ∨ s.state = .released)) ∨
      (s.phase = .check ∧ isReadWord s.cur = true ∧ chOperand s.cur < 2 ∧ s.state = .idle ∧
        t.state = .inTransaction) ∨
      (s.phase = .run ∧ s.seq = [] ∧ s.aborted = false ∧ isReadWord s.cur = true ∧
        s.state = .inTransaction ∧ t.state = .idle) ∨
      (s.phase = .run ∧ s.seq = [] ∧ t.state = .released ∧
        (decode s.cur = .ok .teardown ∨ s.aborted = true))))

/-- 10_state.md section 4, 60_exceptions.md section 1: ERR changes, and BUSY falls, only at the step that ends
a command, or by reset; that step leaves PHASE at NONE. -/
def Obligations.ErrAndBusyChangeOnlyAtCompletion : Prop :=
  ∀ s t : State, step s = .next t → (t.err ≠ s.err ∨ (s.busy = true ∧ t.busy = false)) →
    ResetMove s ∨
    (ControllerMoves s ∧ t.phase = .none ∧ t.busy = false ∧
      (s.phase = .check ∨ (s.phase = .run ∧ s.seq = [])))

/-- 60_exceptions.md section 1, the table of result codes: ERR takes each code only for its own cause, from
its own command and at its own step; reset clears it. TEARDOWN never raises BUS_ERROR, and GLITCH cannot
arise in an aborted transaction. -/
def Obligations.ErrorCodesHaveOnlyTheirCauses : Prop :=
  ∀ s t : State, Inv s → step s = .next t → t.err ≠ s.err →
    ResetMove s ∨ (ControllerMoves s ∧ t.relerr = s.relerr ∧ t.ovr = s.ovr ∧
      match t.err with
      | .ok => s.phase = .run ∧ s.seq = [] ∧ s.aborted = false
      | .configurationError => s.phase = .check ∧ decode s.cur = .ok .setup ∧ t.glitch = s.glitch ∧
          t.trace = s.trace ∧ (s.cfgPins.distinct = false ∨ s.cfgPins.csPin ∈ s.invalidPins ∨
            s.cfgPins.clkPin ∈ s.invalidPins ∨ s.cfgPins.dioPin ∈ s.invalidPins)
      | .invalidChannel => s.phase = .check ∧ isReadWord s.cur = true ∧ s.state = .idle ∧
          2 ≤ chOperand s.cur ∧ t.glitch = s.glitch ∧ t.trace = s.trace
      | .notInitialized => s.phase = .check ∧ isReadWord s.cur = true ∧
          (s.state = .uninitialized ∨ s.state = .released) ∧ t.glitch = s.glitch ∧ t.trace = s.trace
      | .illegalCommand => s.phase = .check ∧ decode s.cur = .error (.unassignedOp (opField s.cur)) ∧
          t.glitch = s.glitch ∧ t.trace = s.trace
      | .busError => s.phase = .run ∧ s.seq = [] ∧ s.aborted = true ∧ opField s.cur ≠ 0x4#4 ∧
          t.state = .released ∧ t.glitch = s.glitch ∧ t.result = s.result)

/-- R27, R28, R29: exactly what sets and exactly what clears GLITCH, RELERR and OVR: a mismatch at an
unaborted read's completion, an error answered to a RELEASE event, a write of CMD while BUSY; a host write of
1 to the flag's bit of STATUS, or reset. -/
def Obligations.StickyFlags : Prop :=
  ∀ s t : State, step s = .next t →
    (s.glitch = true → (t.glitch = false ↔
      ResetMove s ∨ ∃ w, nextMove s = .host (.write 0x04 w) ∧ w.getLsbD 8 = true)) ∧
    (s.relerr = true → (t.relerr = false ↔
      ResetMove s ∨ ∃ w, nextMove s = .host (.write 0x04 w) ∧ w.getLsbD 9 = true)) ∧
    (s.ovr = true → (t.ovr = false ↔
      ResetMove s ∨ ∃ w, nextMove s = .host (.write 0x04 w) ∧ w.getLsbD 10 = true)) ∧
    (s.glitch = false → (t.glitch = true ↔
      ControllerMoves s ∧ s.phase = .run ∧ s.seq = [] ∧ s.aborted = false ∧ isReadWord s.cur = true ∧
        t.result.first ≠ t.result.second)) ∧
    (s.relerr = false → (t.relerr = true ↔
      ControllerMoves s ∧ s.phase = .run ∧ ∃ e rest lvl, s.seq = (e, .release) :: rest ∧
        e.isPinOp = true ∧ nextReply s = .answered ⟨lvl, true⟩)) ∧
    (s.ovr = false → (t.ovr = true ↔
      s.rstN = true ∧ s.busy = true ∧ ∃ w, nextMove s = .host (.write 0x00 w)))

/-- 40_interfaces.md section 2 (R106, an inference of the spec) and section 4, 20_memory.md section 5, log 8: an
event is issued only as the first event of a command's `seq` in RUN, on the Controller's turn, one a step and
at the end of the trace. It is in the trace from the moment it is taken, and its answer is filled in where it
stands; nothing else changes the trace, a reset neither. The closed entries change so in every state; a reset
only closes the operation it cuts off, without an answer. Conversely, a turn that takes an event off `seq`, or
after which the first event is taken, leaves it at the end of the trace, with the answer it was given. -/
def Obligations.EventsIssuedOnlyFromSeq : Prop :=
  (∀ s t : State, step s = .next t → t.trace ≠ s.trace →
    (ResetMove s ∧ t.trace = eventTrace s) ∨
    (ControllerMoves s ∧ s.phase = .run ∧ ∃ e tag rest answer,
      s.seq = (e, tag) :: rest ∧ t.trace = s.trace ++ [⟨e, answer⟩])) ∧
  (∀ s t : State, Inv s → step s = .next t →
    eventTrace t = eventTrace s ∨
    (ControllerMoves s ∧ s.phase = .run ∧ ∃ e tag rest answer, s.seq = (e, tag) :: rest ∧
      ((s.handshake ≠ .taken ∧ eventTrace t = eventTrace s ++ [⟨e, answer⟩]) ∨
       (s.handshake = .taken ∧ eventTrace s = s.trace ++ [⟨e, none⟩] ∧
        eventTrace t = s.trace ++ [⟨e, answer⟩] ∧ ∃ a, nextReply s = .answered a ∧ answer = some a)))) ∧
  (∀ (s t : State) (e : Event) (tag : Tag) (rest : List (Event × Tag)), ControllerMoves s →
    s.phase = .run → s.seq = (e, tag) :: rest → step s = .next t →
    (t.seq ≠ s.seq ∨ t.handshake = .taken) →
    ∃ answer, eventTrace t = s.trace ++ [⟨e, answer⟩] ∧
      (answer = none ↔ e.isPinOp = false ∨ t.handshake = .taken) ∧
      ∀ a, answer = some a → nextReply s = .answered a)

/-! ## Whole commands -/

/-- 41_command_engine.md section 6: an accepted command completes if the Pin Controller answers every
operation, with any levels and errors, after any waits, and whatever accesses the host makes in between:
within 126 Controller steps beside the waits and the moves the agenda lists, after at most 124 events. -/
def Obligations.EveryAcceptedCommandCompletes : Prop :=
  ∀ s : State, s.rstN = true → s.busy = true → s.phase = .check →
    (∀ m ∈ s.agenda, m = .controller ∨ ∃ a, m = .host a) →
    70 ≤ (s.replies.filter isAnswer).length →
    ∃ n t, n ≤ 126 + s.agenda.length + (s.replies.filter (fun r => !isAnswer r)).length ∧
      Host.Core.run Sys2Proof.core n s = .next t ∧ t.phase = .none ∧ t.busy = false ∧
      (eventTrace t).length ≤ (eventTrace s).length + 124

/-- 43_transaction.md sections 1 to 4: a whole READ or READ_BOTH in IDLE on channel 0 or 1, its 64 operations
answered at once and without error and no host access in between, completes in 114 steps with exactly the
transaction's 112 events; FIRST and SECOND are the sixteen levels answered to its Reads (the 14th and every
third operation to the 35th; the 40th and every third to the 61st), and the block is in IDLE with ERR = OK. -/
def Obligations.ReadRunDeliversSamples : Prop :=
  ∀ (s : State) (ch : Nat) (i : Instr) (answers : List PinAnswer) (more : List PinReply),
    s.rstN = true → s.agenda = [] → s.phase = .check → decode s.cur = .ok i →
    i = .read ch ∨ i = .readBoth ch → ch < 2 → s.state = .idle →
    s.replies = answers.map PinReply.answered ++ more → answers.length = 64 →
    (∀ a ∈ answers, a.err = false) →
    ∃ t, Host.Core.run Sys2Proof.core 114 s = .next t ∧
      t.trace.map TraceEntry.event =
        s.trace.map TraceEntry.event ++ transactionEvents ch s.actPins s.actDelay ∧
      t.replies = more ∧ t.state = .idle ∧ t.busy = false ∧ t.err = .ok ∧ t.phase = .none ∧
      (∀ k, k < 8 → some (t.result.first.getLsbD (7 - k)) = (answers[13 + 3 * k]?).map PinAnswer.level) ∧
      (∀ k, k < 8 → some (t.result.second.getLsbD (if s.actOpt.secondLsb then k else 7 - k)) =
        (answers[39 + 3 * k]?).map PinAnswer.level) ∧
      t.result.valid = true ∧ t.result.kind = decide (i = .readBoth ch) ∧
      t.result.matched = decide (t.result.first = t.result.second) ∧
      t.result.sample = (if t.result.first = t.result.second then t.result.first
        else if s.actOpt.mismatchZero then 0 else t.result.first) ∧
      t.glitch = (s.glitch || decide (t.result.first ≠ t.result.second)) ∧
      t.actPins = s.actPins ∧ t.actDelay = s.actDelay ∧ t.actOpt = s.actOpt ∧
      ownedPins t = [s.actPins.csPin, s.actPins.clkPin, s.actPins.dioPin]

/-- 42_lifecycle.md section 1: a whole SETUP with distinct valid pins, its operations answered at once and no
host access in between, leaves the block in IDLE on the new pins. From UNINITIALIZED or RELEASED it takes 8
steps with the six configuration events; from IDLE 20 steps, with the twelve events of the old pins' safe
release before them, whose errors only set RELERR. -/
def Obligations.SetupRunReachesIdle : Prop :=
  ∀ (s : State) (answers : List PinAnswer) (more : List PinReply),
    s.rstN = true → s.agenda = [] → s.phase = .check → decode s.cur = .ok .setup →
    s.cfgPins.distinct = true → pinsValid s.cfgPins s = true →
    s.replies = answers.map PinReply.answered ++ more →
    (s.state = .uninitialized ∨ s.state = .released → answers.length = 3 →
      (∀ a ∈ answers, a.err = false) →
      ∃ t, Host.Core.run Sys2Proof.core 8 s = .next t ∧
        t.trace.map TraceEntry.event =
          s.trace.map TraceEntry.event ++ configureEvents s.cfgPins s.cfgDelay ∧
        t.state = .idle ∧ t.err = .ok ∧ t.busy = false ∧ t.phase = .none ∧
        t.actPins = s.cfgPins ∧ t.actDelay = s.cfgDelay ∧ t.actOpt = s.cfgOpt ∧
        ownedPins t = [s.cfgPins.csPin, s.cfgPins.clkPin, s.cfgPins.dioPin] ∧
        t.result = s.result ∧ t.glitch = s.glitch ∧ t.relerr = s.relerr ∧ t.ovr = s.ovr) ∧
    (s.state = .idle → answers.length = 9 → (∀ a ∈ answers.drop 6, a.err = false) →
      ∃ t, Host.Core.run Sys2Proof.core 20 s = .next t ∧
        t.trace.map TraceEntry.event =
          s.trace.map TraceEntry.event ++ safeReleaseEvents s.actPins s.actDelay ++
            configureEvents s.cfgPins s.cfgDelay ∧
        t.state = .idle ∧ t.err = .ok ∧ t.busy = false ∧ t.phase = .none ∧
        t.actPins = s.cfgPins ∧ t.actDelay = s.cfgDelay ∧ t.actOpt = s.cfgOpt ∧
        ownedPins t = [s.cfgPins.csPin, s.cfgPins.clkPin, s.cfgPins.dioPin] ∧
        t.result = s.result ∧ t.glitch = s.glitch ∧ t.ovr = s.ovr ∧
        t.relerr = (s.relerr || (answers.take 6).any PinAnswer.err))

/-- 42_lifecycle.md section 2: a whole TEARDOWN from IDLE, its six operations answered at once and no host
access in between, completes in 14 steps with the twelve events of the safe release, ERR = OK and
STATE = RELEASED, whatever errors they answer; RELERR says whether one did. -/
def Obligations.TeardownRunAlwaysReleases : Prop :=
  ∀ (s : State) (answers : List PinAnswer) (more : List PinReply),
    s.rstN = true → s.agenda = [] → s.phase = .check → decode s.cur = .ok .teardown → s.state = .idle →
    s.replies = answers.map PinReply.answered ++ more → answers.length = 6 →
    ∃ t, Host.Core.run Sys2Proof.core 14 s = .next t ∧
      t.trace.map TraceEntry.event =
        s.trace.map TraceEntry.event ++ safeReleaseEvents s.actPins s.actDelay ∧
      t.state = .released ∧ t.err = .ok ∧ t.busy = false ∧ t.phase = .none ∧
      t.relerr = (s.relerr || answers.any PinAnswer.err) ∧
      ownedPins t = [] ∧ t.actPins = s.actPins ∧ t.result = s.result ∧ t.glitch = s.glitch ∧ t.ovr = s.ovr

/-- 42_lifecycle.md section 2: a TEARDOWN the host issues in RELEASED completes in three steps with no event
and leaves STATUS but for ERR = OK. -/
def Obligations.SecondTeardownIsSilent : Prop :=
  ∀ s : State, s.rstN = true → s.busy = false → s.state = .released →
    s.agenda = [.host (issue .teardown)] →
    ∃ t, Host.Core.run Sys2Proof.core 3 s = .next t ∧ t.trace = s.trace ∧ t.state = .released ∧
      t.err = .ok ∧ t.busy = false ∧ t.glitch = s.glitch ∧ t.relerr = s.relerr ∧ t.ovr = s.ovr ∧
      t.result = s.result ∧ t.actPins = s.actPins

/-- 40_interfaces.md sections 2 and 4, 10_state.md section 4: under the Pin Controller's contract, successful
configuration events leave chip-select high and clock and data low as outputs, a successful transaction after
it ends with chip-select high and data low, and a successful safe release leaves the three pins undriven and
not owned, whatever came before. The view of the contract is the model's (log 23), and so is that three
different identifiers are three different pins (log 26). -/
def Obligations.ContractPinLevels : Prop :=
  ∀ (a : Pins) (d : Word) (before trace : List TraceEntry), a.distinct = true →
    (∀ t ∈ trace, t.succeeded = true) →
    (trace.map TraceEntry.event = configureEvents a d →
      pinView a.csPin (before ++ trace) = .output true ∧
      pinView a.clkPin (before ++ trace) = .output false ∧
      pinView a.dioPin (before ++ trace) = .output false) ∧
    (∀ ch, trace.map TraceEntry.event = transactionEvents ch a d →
      pinView a.csPin (before ++ trace) = .output true ∧
      pinView a.clkPin (before ++ trace) = .output false ∧
      pinView a.dioPin (before ++ trace) = .output false) ∧
    (trace.map TraceEntry.event = safeReleaseEvents a d →
      pinView a.csPin (before ++ trace) = .released ∧
      pinView a.clkPin (before ++ trace) = .released ∧
      pinView a.dioPin (before ++ trace) = .released)

/-! ## Progress and the port -/

/-- 41_command_engine.md section 6: with a command in progress every Controller turn lowers the number of
steps the command can still take, but for a turn in which the Pin Controller does not answer, which leaves it
and `seq`; no host access while BUSY and no late answer changes it, so no Controller step waits for the host;
a reset ends the command. -/
def Obligations.EveryControllerTurnProgresses : Prop :=
  ∀ s t : State, s.rstN = true → step s = .next t →
    (turnsLeft s = 0 ↔ s.phase = .none) ∧
    (nextMove s = .controller → s.phase ≠ .none →
      (AwaitsAnswer s → turnsLeft t = turnsLeft s ∧ t.seq = s.seq) ∧
      (¬AwaitsAnswer s → turnsLeft t < turnsLeft s)) ∧
    (∀ a, nextMove s = .host a → s.busy = true → turnsLeft t = turnsLeft s) ∧
    (∀ a, nextMove s = .strayAnswer a → turnsLeft t = turnsLeft s) ∧
    (nextMove s = .rst true → turnsLeft t = turnsLeft s) ∧
    (nextMove s = .rst false → turnsLeft t = 0)

/-- 30_encoding.md section 3, 40_interfaces.md section 1: the signals of each pin operation's request: its
code, the scheme bit (BCM 0, BOARD 1), the identifier, and the level, 0 where the kind does not use it. A
request is on the port exactly while one is presented, and a Delay makes none. -/
def Obligations.PinRequestSignals : Prop :=
  (∀ (p : PinId) (v : Bool),
    let scheme := decide (p.scheme = .board)
    Event.request (.cfgOut p v) = some ⟨0b000, scheme, p.id, v⟩ ∧
    Event.request (.cfgIn p) = some ⟨0b001, scheme, p.id, false⟩ ∧
    Event.request (.write p v) = some ⟨0b010, scheme, p.id, v⟩ ∧
    Event.request (.read p) = some ⟨0b011, scheme, p.id, false⟩ ∧
    Event.request (.release p) = some ⟨0b100, scheme, p.id, false⟩) ∧
  (∀ s : State, Inv s → ((pinRequest s).isSome = true ↔ s.handshake = .presented)) ∧
  (∀ (s : State) (r : PinRequest), pinRequest s = some r → r.op.toNat ≤ 4 ∧
    ∃ e tag rest, s.seq = (e, tag) :: rest ∧ e.isPinOp = true ∧ Event.request e = some r)
end

