-- ==== Sys2Proof/Laws/State.lean ====
section
/-! SUPPORT. One lemma per field per update of State: what each shared update writes and what it keeps. -/

namespace Sys2Proof.Machine

open Sys2Proof

/-! ## accept -/

@[simp] theorem accept_cmd (w : Word) (s : State) : (accept w s).cmd = acceptedWord w := rfl
@[simp] theorem accept_state (w : Word) (s : State) : (accept w s).state = s.state := rfl
@[simp] theorem accept_busy (w : Word) (s : State) : (accept w s).busy = true := rfl
@[simp] theorem accept_err (w : Word) (s : State) : (accept w s).err = s.err := rfl
@[simp] theorem accept_glitch (w : Word) (s : State) : (accept w s).glitch = s.glitch := rfl
@[simp] theorem accept_relerr (w : Word) (s : State) : (accept w s).relerr = s.relerr := rfl
@[simp] theorem accept_ovr (w : Word) (s : State) : (accept w s).ovr = s.ovr := rfl
@[simp] theorem accept_result (w : Word) (s : State) : (accept w s).result = s.result := rfl
@[simp] theorem accept_cfgPins (w : Word) (s : State) : (accept w s).cfgPins = s.cfgPins := rfl
@[simp] theorem accept_cfgDelay (w : Word) (s : State) : (accept w s).cfgDelay = s.cfgDelay := rfl
@[simp] theorem accept_cfgOpt (w : Word) (s : State) : (accept w s).cfgOpt = s.cfgOpt := rfl
@[simp] theorem accept_actPins (w : Word) (s : State) : (accept w s).actPins = s.actPins := rfl
@[simp] theorem accept_actDelay (w : Word) (s : State) : (accept w s).actDelay = s.actDelay := rfl
@[simp] theorem accept_actOpt (w : Word) (s : State) : (accept w s).actOpt = s.actOpt := rfl
@[simp] theorem accept_phase (w : Word) (s : State) : (accept w s).phase = .check := rfl
@[simp] theorem accept_cur (w : Word) (s : State) : (accept w s).cur = acceptedWord w := rfl
@[simp] theorem accept_seq (w : Word) (s : State) : (accept w s).seq = s.seq := rfl
@[simp] theorem accept_aborted (w : Word) (s : State) : (accept w s).aborted = s.aborted := rfl
@[simp] theorem accept_nextState (w : Word) (s : State) : (accept w s).nextState = s.nextState := rfl
@[simp] theorem accept_sr (w : Word) (s : State) : (accept w s).sr = s.sr := rfl
@[simp] theorem accept_nread (w : Word) (s : State) : (accept w s).nread = s.nread := rfl
@[simp] theorem accept_snap (w : Word) (s : State) : (accept w s).snap = s.snap := rfl
@[simp] theorem accept_handshake (w : Word) (s : State) : (accept w s).handshake = s.handshake := rfl
@[simp] theorem accept_orphans (w : Word) (s : State) : (accept w s).orphans = s.orphans := rfl
@[simp] theorem accept_rstN (w : Word) (s : State) : (accept w s).rstN = s.rstN := rfl
@[simp] theorem accept_rdata (w : Word) (s : State) : (accept w s).rdata = s.rdata := rfl
@[simp] theorem accept_agenda (w : Word) (s : State) : (accept w s).agenda = s.agenda := rfl
@[simp] theorem accept_replies (w : Word) (s : State) : (accept w s).replies = s.replies := rfl
@[simp] theorem accept_draws (w : Word) (s : State) : (accept w s).draws = s.draws := rfl
@[simp] theorem accept_invalidPins (w : Word) (s : State) : (accept w s).invalidPins = s.invalidPins := rfl
@[simp] theorem accept_trace (w : Word) (s : State) : (accept w s).trace = s.trace := rfl

/-! ## dropCommand -/

@[simp] theorem dropCommand_cmd (s : State) : (dropCommand s).cmd = s.cmd := rfl
@[simp] theorem dropCommand_state (s : State) : (dropCommand s).state = s.state := rfl
@[simp] theorem dropCommand_busy (s : State) : (dropCommand s).busy = s.busy := rfl
@[simp] theorem dropCommand_err (s : State) : (dropCommand s).err = s.err := rfl
@[simp] theorem dropCommand_glitch (s : State) : (dropCommand s).glitch = s.glitch := rfl
@[simp] theorem dropCommand_relerr (s : State) : (dropCommand s).relerr = s.relerr := rfl
@[simp] theorem dropCommand_ovr (s : State) : (dropCommand s).ovr = true := rfl
@[simp] theorem dropCommand_result (s : State) : (dropCommand s).result = s.result := rfl
@[simp] theorem dropCommand_cfgPins (s : State) : (dropCommand s).cfgPins = s.cfgPins := rfl
@[simp] theorem dropCommand_cfgDelay (s : State) : (dropCommand s).cfgDelay = s.cfgDelay := rfl
@[simp] theorem dropCommand_cfgOpt (s : State) : (dropCommand s).cfgOpt = s.cfgOpt := rfl
@[simp] theorem dropCommand_actPins (s : State) : (dropCommand s).actPins = s.actPins := rfl
@[simp] theorem dropCommand_actDelay (s : State) : (dropCommand s).actDelay = s.actDelay := rfl
@[simp] theorem dropCommand_actOpt (s : State) : (dropCommand s).actOpt = s.actOpt := rfl
@[simp] theorem dropCommand_phase (s : State) : (dropCommand s).phase = s.phase := rfl
@[simp] theorem dropCommand_cur (s : State) : (dropCommand s).cur = s.cur := rfl
@[simp] theorem dropCommand_seq (s : State) : (dropCommand s).seq = s.seq := rfl
@[simp] theorem dropCommand_aborted (s : State) : (dropCommand s).aborted = s.aborted := rfl
@[simp] theorem dropCommand_nextState (s : State) : (dropCommand s).nextState = s.nextState := rfl
@[simp] theorem dropCommand_sr (s : State) : (dropCommand s).sr = s.sr := rfl
@[simp] theorem dropCommand_nread (s : State) : (dropCommand s).nread = s.nread := rfl
@[simp] theorem dropCommand_snap (s : State) : (dropCommand s).snap = s.snap := rfl
@[simp] theorem dropCommand_handshake (s : State) : (dropCommand s).handshake = s.handshake := rfl
@[simp] theorem dropCommand_orphans (s : State) : (dropCommand s).orphans = s.orphans := rfl
@[simp] theorem dropCommand_rstN (s : State) : (dropCommand s).rstN = s.rstN := rfl
@[simp] theorem dropCommand_rdata (s : State) : (dropCommand s).rdata = s.rdata := rfl
@[simp] theorem dropCommand_agenda (s : State) : (dropCommand s).agenda = s.agenda := rfl
@[simp] theorem dropCommand_replies (s : State) : (dropCommand s).replies = s.replies := rfl
@[simp] theorem dropCommand_draws (s : State) : (dropCommand s).draws = s.draws := rfl
@[simp] theorem dropCommand_invalidPins (s : State) : (dropCommand s).invalidPins = s.invalidPins := rfl
@[simp] theorem dropCommand_trace (s : State) : (dropCommand s).trace = s.trace := rfl

/-! ## raiseError -/

@[simp] theorem raiseError_cmd (c : ErrCode) (s : State) : (raiseError c s).cmd = s.cmd := rfl
@[simp] theorem raiseError_state (c : ErrCode) (s : State) : (raiseError c s).state = s.state := rfl
@[simp] theorem raiseError_busy (c : ErrCode) (s : State) : (raiseError c s).busy = false := rfl
@[simp] theorem raiseError_err (c : ErrCode) (s : State) : (raiseError c s).err = c := rfl
@[simp] theorem raiseError_glitch (c : ErrCode) (s : State) : (raiseError c s).glitch = s.glitch := rfl
@[simp] theorem raiseError_relerr (c : ErrCode) (s : State) : (raiseError c s).relerr = s.relerr := rfl
@[simp] theorem raiseError_ovr (c : ErrCode) (s : State) : (raiseError c s).ovr = s.ovr := rfl
@[simp] theorem raiseError_result (c : ErrCode) (s : State) : (raiseError c s).result = s.result := rfl
@[simp] theorem raiseError_cfgPins (c : ErrCode) (s : State) : (raiseError c s).cfgPins = s.cfgPins := rfl
@[simp] theorem raiseError_cfgDelay (c : ErrCode) (s : State) : (raiseError c s).cfgDelay = s.cfgDelay := rfl
@[simp] theorem raiseError_cfgOpt (c : ErrCode) (s : State) : (raiseError c s).cfgOpt = s.cfgOpt := rfl
@[simp] theorem raiseError_actPins (c : ErrCode) (s : State) : (raiseError c s).actPins = s.actPins := rfl
@[simp] theorem raiseError_actDelay (c : ErrCode) (s : State) : (raiseError c s).actDelay = s.actDelay := rfl
@[simp] theorem raiseError_actOpt (c : ErrCode) (s : State) : (raiseError c s).actOpt = s.actOpt := rfl
@[simp] theorem raiseError_phase (c : ErrCode) (s : State) : (raiseError c s).phase = .none := rfl
@[simp] theorem raiseError_cur (c : ErrCode) (s : State) : (raiseError c s).cur = s.cur := rfl
@[simp] theorem raiseError_seq (c : ErrCode) (s : State) : (raiseError c s).seq = s.seq := rfl
@[simp] theorem raiseError_aborted (c : ErrCode) (s : State) : (raiseError c s).aborted = s.aborted := rfl
@[simp] theorem raiseError_nextState (c : ErrCode) (s : State) :
    (raiseError c s).nextState = s.nextState := rfl
@[simp] theorem raiseError_sr (c : ErrCode) (s : State) : (raiseError c s).sr = s.sr := rfl
@[simp] theorem raiseError_nread (c : ErrCode) (s : State) : (raiseError c s).nread = s.nread := rfl
@[simp] theorem raiseError_snap (c : ErrCode) (s : State) : (raiseError c s).snap = s.snap := rfl
@[simp] theorem raiseError_handshake (c : ErrCode) (s : State) :
    (raiseError c s).handshake = s.handshake := rfl
@[simp] theorem raiseError_orphans (c : ErrCode) (s : State) : (raiseError c s).orphans = s.orphans := rfl
@[simp] theorem raiseError_rstN (c : ErrCode) (s : State) : (raiseError c s).rstN = s.rstN := rfl
@[simp] theorem raiseError_rdata (c : ErrCode) (s : State) : (raiseError c s).rdata = s.rdata := rfl
@[simp] theorem raiseError_agenda (c : ErrCode) (s : State) : (raiseError c s).agenda = s.agenda := rfl
@[simp] theorem raiseError_replies (c : ErrCode) (s : State) : (raiseError c s).replies = s.replies := rfl
@[simp] theorem raiseError_draws (c : ErrCode) (s : State) : (raiseError c s).draws = s.draws := rfl
@[simp] theorem raiseError_invalidPins (c : ErrCode) (s : State) :
    (raiseError c s).invalidPins = s.invalidPins := rfl
@[simp] theorem raiseError_trace (c : ErrCode) (s : State) : (raiseError c s).trace = s.trace := rfl

/-! ## beginCheck -/

@[simp] theorem beginCheck_cmd (s : State) : (beginCheck s).cmd = s.cmd := rfl
@[simp] theorem beginCheck_state (s : State) : (beginCheck s).state = s.state := rfl
@[simp] theorem beginCheck_busy (s : State) : (beginCheck s).busy = s.busy := rfl
@[simp] theorem beginCheck_err (s : State) : (beginCheck s).err = s.err := rfl
@[simp] theorem beginCheck_glitch (s : State) : (beginCheck s).glitch = s.glitch := rfl
@[simp] theorem beginCheck_relerr (s : State) : (beginCheck s).relerr = s.relerr := rfl
@[simp] theorem beginCheck_ovr (s : State) : (beginCheck s).ovr = s.ovr := rfl
@[simp] theorem beginCheck_result (s : State) : (beginCheck s).result = s.result := rfl
@[simp] theorem beginCheck_cfgPins (s : State) : (beginCheck s).cfgPins = s.cfgPins := rfl
@[simp] theorem beginCheck_cfgDelay (s : State) : (beginCheck s).cfgDelay = s.cfgDelay := rfl
@[simp] theorem beginCheck_cfgOpt (s : State) : (beginCheck s).cfgOpt = s.cfgOpt := rfl
@[simp] theorem beginCheck_actPins (s : State) : (beginCheck s).actPins = s.actPins := rfl
@[simp] theorem beginCheck_actDelay (s : State) : (beginCheck s).actDelay = s.actDelay := rfl
@[simp] theorem beginCheck_actOpt (s : State) : (beginCheck s).actOpt = s.actOpt := rfl
@[simp] theorem beginCheck_phase (s : State) : (beginCheck s).phase = s.phase := rfl
@[simp] theorem beginCheck_cur (s : State) : (beginCheck s).cur = s.cur := rfl
@[simp] theorem beginCheck_seq (s : State) : (beginCheck s).seq = s.seq := rfl
@[simp] theorem beginCheck_aborted (s : State) : (beginCheck s).aborted = false := rfl
@[simp] theorem beginCheck_nextState (s : State) : (beginCheck s).nextState = s.nextState := rfl
@[simp] theorem beginCheck_sr (s : State) : (beginCheck s).sr = s.sr := rfl
@[simp] theorem beginCheck_nread (s : State) : (beginCheck s).nread = s.nread := rfl
@[simp] theorem beginCheck_snap (s : State) : (beginCheck s).snap = s.snap := rfl
@[simp] theorem beginCheck_handshake (s : State) : (beginCheck s).handshake = s.handshake := rfl
@[simp] theorem beginCheck_orphans (s : State) : (beginCheck s).orphans = s.orphans := rfl
@[simp] theorem beginCheck_rstN (s : State) : (beginCheck s).rstN = s.rstN := rfl
@[simp] theorem beginCheck_rdata (s : State) : (beginCheck s).rdata = s.rdata := rfl
@[simp] theorem beginCheck_agenda (s : State) : (beginCheck s).agenda = s.agenda := rfl
@[simp] theorem beginCheck_replies (s : State) : (beginCheck s).replies = s.replies := rfl
@[simp] theorem beginCheck_draws (s : State) : (beginCheck s).draws = s.draws := rfl
@[simp] theorem beginCheck_invalidPins (s : State) : (beginCheck s).invalidPins = s.invalidPins := rfl
@[simp] theorem beginCheck_trace (s : State) : (beginCheck s).trace = s.trace := rfl

/-! ## startRun -/

@[simp] theorem startRun_cmd (l : List (Event × Tag)) (n : Lifecycle) (s : State) :
    (startRun l n s).cmd = s.cmd := rfl
@[simp] theorem startRun_state (l : List (Event × Tag)) (n : Lifecycle) (s : State) :
    (startRun l n s).state = s.state := rfl
@[simp] theorem startRun_busy (l : List (Event × Tag)) (n : Lifecycle) (s : State) :
    (startRun l n s).busy = s.busy := rfl
@[simp] theorem startRun_err (l : List (Event × Tag)) (n : Lifecycle) (s : State) :
    (startRun l n s).err = s.err := rfl
@[simp] theorem startRun_glitch (l : List (Event × Tag)) (n : Lifecycle) (s : State) :
    (startRun l n s).glitch = s.glitch := rfl
@[simp] theorem startRun_relerr (l : List (Event × Tag)) (n : Lifecycle) (s : State) :
    (startRun l n s).relerr = s.relerr := rfl
@[simp] theorem startRun_ovr (l : List (Event × Tag)) (n : Lifecycle) (s : State) :
    (startRun l n s).ovr = s.ovr := rfl
@[simp] theorem startRun_result (l : List (Event × Tag)) (n : Lifecycle) (s : State) :
    (startRun l n s).result = s.result := rfl
@[simp] theorem startRun_cfgPins (l : List (Event × Tag)) (n : Lifecycle) (s : State) :
    (startRun l n s).cfgPins = s.cfgPins := rfl
@[simp] theorem startRun_cfgDelay (l : List (Event × Tag)) (n : Lifecycle) (s : State) :
    (startRun l n s).cfgDelay = s.cfgDelay := rfl
@[simp] theorem startRun_cfgOpt (l : List (Event × Tag)) (n : Lifecycle) (s : State) :
    (startRun l n s).cfgOpt = s.cfgOpt := rfl
@[simp] theorem startRun_actPins (l : List (Event × Tag)) (n : Lifecycle) (s : State) :
    (startRun l n s).actPins = s.actPins := rfl
@[simp] theorem startRun_actDelay (l : List (Event × Tag)) (n : Lifecycle) (s : State) :
    (startRun l n s).actDelay = s.actDelay := rfl
@[simp] theorem startRun_actOpt (l : List (Event × Tag)) (n : Lifecycle) (s : State) :
    (startRun l n s).actOpt = s.actOpt := rfl
@[simp] theorem startRun_phase (l : List (Event × Tag)) (n : Lifecycle) (s : State) :
    (startRun l n s).phase = .run := rfl
@[simp] theorem startRun_cur (l : List (Event × Tag)) (n : Lifecycle) (s : State) :
    (startRun l n s).cur = s.cur := rfl
@[simp] theorem startRun_seq (l : List (Event × Tag)) (n : Lifecycle) (s : State) :
    (startRun l n s).seq = l := rfl
@[simp] theorem startRun_aborted (l : List (Event × Tag)) (n : Lifecycle) (s : State) :
    (startRun l n s).aborted = s.aborted := rfl
@[simp] theorem startRun_nextState (l : List (Event × Tag)) (n : Lifecycle) (s : State) :
    (startRun l n s).nextState = n := rfl
@[simp] theorem startRun_sr (l : List (Event × Tag)) (n : Lifecycle) (s : State) :
    (startRun l n s).sr = s.sr := rfl
@[simp] theorem startRun_nread (l : List (Event × Tag)) (n : Lifecycle) (s : State) :
    (startRun l n s).nread = s.nread := rfl
@[simp] theorem startRun_snap (l : List (Event × Tag)) (n : Lifecycle) (s : State) :
    (startRun l n s).snap = s.snap := rfl
@[simp] theorem startRun_handshake (l : List (Event × Tag)) (n : Lifecycle) (s : State) :
    (startRun l n s).handshake = s.handshake := rfl
@[simp] theorem startRun_orphans (l : List (Event × Tag)) (n : Lifecycle) (s : State) :
    (startRun l n s).orphans = s.orphans := rfl
@[simp] theorem startRun_rstN (l : List (Event × Tag)) (n : Lifecycle) (s : State) :
    (startRun l n s).rstN = s.rstN := rfl
@[simp] theorem startRun_rdata (l : List (Event × Tag)) (n : Lifecycle) (s : State) :
    (startRun l n s).rdata = s.rdata := rfl
@[simp] theorem startRun_agenda (l : List (Event × Tag)) (n : Lifecycle) (s : State) :
    (startRun l n s).agenda = s.agenda := rfl
@[simp] theorem startRun_replies (l : List (Event × Tag)) (n : Lifecycle) (s : State) :
    (startRun l n s).replies = s.replies := rfl
@[simp] theorem startRun_draws (l : List (Event × Tag)) (n : Lifecycle) (s : State) :
    (startRun l n s).draws = s.draws := rfl
@[simp] theorem startRun_invalidPins (l : List (Event × Tag)) (n : Lifecycle) (s : State) :
    (startRun l n s).invalidPins = s.invalidPins := rfl
@[simp] theorem startRun_trace (l : List (Event × Tag)) (n : Lifecycle) (s : State) :
    (startRun l n s).trace = s.trace := rfl

/-! ## abort -/

@[simp] theorem abort_cmd (s : State) : (abort s).cmd = s.cmd := rfl
@[simp] theorem abort_state (s : State) : (abort s).state = s.state := rfl
@[simp] theorem abort_busy (s : State) : (abort s).busy = s.busy := rfl
@[simp] theorem abort_err (s : State) : (abort s).err = s.err := rfl
@[simp] theorem abort_glitch (s : State) : (abort s).glitch = s.glitch := rfl
@[simp] theorem abort_relerr (s : State) : (abort s).relerr = s.relerr := rfl
@[simp] theorem abort_ovr (s : State) : (abort s).ovr = s.ovr := rfl
@[simp] theorem abort_result (s : State) : (abort s).result = s.result := rfl
@[simp] theorem abort_cfgPins (s : State) : (abort s).cfgPins = s.cfgPins := rfl
@[simp] theorem abort_cfgDelay (s : State) : (abort s).cfgDelay = s.cfgDelay := rfl
@[simp] theorem abort_cfgOpt (s : State) : (abort s).cfgOpt = s.cfgOpt := rfl
@[simp] theorem abort_actPins (s : State) : (abort s).actPins = s.actPins := rfl
@[simp] theorem abort_actDelay (s : State) : (abort s).actDelay = s.actDelay := rfl
@[simp] theorem abort_actOpt (s : State) : (abort s).actOpt = s.actOpt := rfl
@[simp] theorem abort_phase (s : State) : (abort s).phase = s.phase := rfl
@[simp] theorem abort_cur (s : State) : (abort s).cur = s.cur := rfl
@[simp] theorem abort_seq (s : State) : (abort s).seq = safeRelease s.actPins s.actDelay := rfl
@[simp] theorem abort_aborted (s : State) : (abort s).aborted = true := rfl
@[simp] theorem abort_nextState (s : State) : (abort s).nextState = .released := rfl
@[simp] theorem abort_sr (s : State) : (abort s).sr = s.sr := rfl
@[simp] theorem abort_nread (s : State) : (abort s).nread = s.nread := rfl
@[simp] theorem abort_snap (s : State) : (abort s).snap = s.snap := rfl
@[simp] theorem abort_handshake (s : State) : (abort s).handshake = s.handshake := rfl
@[simp] theorem abort_orphans (s : State) : (abort s).orphans = s.orphans := rfl
@[simp] theorem abort_rstN (s : State) : (abort s).rstN = s.rstN := rfl
@[simp] theorem abort_rdata (s : State) : (abort s).rdata = s.rdata := rfl
@[simp] theorem abort_agenda (s : State) : (abort s).agenda = s.agenda := rfl
@[simp] theorem abort_replies (s : State) : (abort s).replies = s.replies := rfl
@[simp] theorem abort_draws (s : State) : (abort s).draws = s.draws := rfl
@[simp] theorem abort_invalidPins (s : State) : (abort s).invalidPins = s.invalidPins := rfl
@[simp] theorem abort_trace (s : State) : (abort s).trace = s.trace := rfl

/-! ## retire -/

@[simp] theorem retire_cmd (e : Event) (r : List (Event × Tag)) (a : Option PinAnswer) (s : State) :
    (retire e r a s).cmd = s.cmd := rfl
@[simp] theorem retire_state (e : Event) (r : List (Event × Tag)) (a : Option PinAnswer) (s : State) :
    (retire e r a s).state = s.state := rfl
@[simp] theorem retire_busy (e : Event) (r : List (Event × Tag)) (a : Option PinAnswer) (s : State) :
    (retire e r a s).busy = s.busy := rfl
@[simp] theorem retire_err (e : Event) (r : List (Event × Tag)) (a : Option PinAnswer) (s : State) :
    (retire e r a s).err = s.err := rfl
@[simp] theorem retire_glitch (e : Event) (r : List (Event × Tag)) (a : Option PinAnswer) (s : State) :
    (retire e r a s).glitch = s.glitch := rfl
@[simp] theorem retire_relerr (e : Event) (r : List (Event × Tag)) (a : Option PinAnswer) (s : State) :
    (retire e r a s).relerr = s.relerr := rfl
@[simp] theorem retire_ovr (e : Event) (r : List (Event × Tag)) (a : Option PinAnswer) (s : State) :
    (retire e r a s).ovr = s.ovr := rfl
@[simp] theorem retire_result (e : Event) (r : List (Event × Tag)) (a : Option PinAnswer) (s : State) :
    (retire e r a s).result = s.result := rfl
@[simp] theorem retire_cfgPins (e : Event) (r : List (Event × Tag)) (a : Option PinAnswer) (s : State) :
    (retire e r a s).cfgPins = s.cfgPins := rfl
@[simp] theorem retire_cfgDelay (e : Event) (r : List (Event × Tag)) (a : Option PinAnswer) (s : State) :
    (retire e r a s).cfgDelay = s.cfgDelay := rfl
@[simp] theorem retire_cfgOpt (e : Event) (r : List (Event × Tag)) (a : Option PinAnswer) (s : State) :
    (retire e r a s).cfgOpt = s.cfgOpt := rfl
@[simp] theorem retire_actPins (e : Event) (r : List (Event × Tag)) (a : Option PinAnswer) (s : State) :
    (retire e r a s).actPins = s.actPins := rfl
@[simp] theorem retire_actDelay (e : Event) (r : List (Event × Tag)) (a : Option PinAnswer) (s : State) :
    (retire e r a s).actDelay = s.actDelay := rfl
@[simp] theorem retire_actOpt (e : Event) (r : List (Event × Tag)) (a : Option PinAnswer) (s : State) :
    (retire e r a s).actOpt = s.actOpt := rfl
@[simp] theorem retire_phase (e : Event) (r : List (Event × Tag)) (a : Option PinAnswer) (s : State) :
    (retire e r a s).phase = s.phase := rfl
@[simp] theorem retire_cur (e : Event) (r : List (Event × Tag)) (a : Option PinAnswer) (s : State) :
    (retire e r a s).cur = s.cur := rfl
@[simp] theorem retire_seq (e : Event) (r : List (Event × Tag)) (a : Option PinAnswer) (s : State) :
    (retire e r a s).seq = r := rfl
@[simp] theorem retire_aborted (e : Event) (r : List (Event × Tag)) (a : Option PinAnswer) (s : State) :
    (retire e r a s).aborted = s.aborted := rfl
@[simp] theorem retire_nextState (e : Event) (r : List (Event × Tag)) (a : Option PinAnswer) (s : State) :
    (retire e r a s).nextState = s.nextState := rfl
@[simp] theorem retire_sr (e : Event) (r : List (Event × Tag)) (a : Option PinAnswer) (s : State) :
    (retire e r a s).sr = s.sr := rfl
@[simp] theorem retire_nread (e : Event) (r : List (Event × Tag)) (a : Option PinAnswer) (s : State) :
    (retire e r a s).nread = s.nread := rfl
@[simp] theorem retire_snap (e : Event) (r : List (Event × Tag)) (a : Option PinAnswer) (s : State) :
    (retire e r a s).snap = s.snap := rfl
@[simp] theorem retire_handshake (e : Event) (r : List (Event × Tag)) (a : Option PinAnswer) (s : State) :
    (retire e r a s).handshake = .idle := rfl
@[simp] theorem retire_orphans (e : Event) (r : List (Event × Tag)) (a : Option PinAnswer) (s : State) :
    (retire e r a s).orphans = s.orphans := rfl
@[simp] theorem retire_rstN (e : Event) (r : List (Event × Tag)) (a : Option PinAnswer) (s : State) :
    (retire e r a s).rstN = s.rstN := rfl
@[simp] theorem retire_rdata (e : Event) (r : List (Event × Tag)) (a : Option PinAnswer) (s : State) :
    (retire e r a s).rdata = s.rdata := rfl
@[simp] theorem retire_agenda (e : Event) (r : List (Event × Tag)) (a : Option PinAnswer) (s : State) :
    (retire e r a s).agenda = s.agenda := rfl
@[simp] theorem retire_replies (e : Event) (r : List (Event × Tag)) (a : Option PinAnswer) (s : State) :
    (retire e r a s).replies = s.replies := rfl
@[simp] theorem retire_draws (e : Event) (r : List (Event × Tag)) (a : Option PinAnswer) (s : State) :
    (retire e r a s).draws = s.draws := rfl
@[simp] theorem retire_invalidPins (e : Event) (r : List (Event × Tag)) (a : Option PinAnswer) (s : State) :
    (retire e r a s).invalidPins = s.invalidPins := rfl
@[simp] theorem retire_trace (e : Event) (r : List (Event × Tag)) (a : Option PinAnswer) (s : State) :
    (retire e r a s).trace = s.trace ++ [⟨e, a⟩] := rfl

/-! ## takeSnap -/

@[simp] theorem takeSnap_cmd (s : State) : (takeSnap s).cmd = s.cmd := rfl
@[simp] theorem takeSnap_state (s : State) : (takeSnap s).state = s.state := rfl
@[simp] theorem takeSnap_busy (s : State) : (takeSnap s).busy = s.busy := rfl
@[simp] theorem takeSnap_err (s : State) : (takeSnap s).err = s.err := rfl
@[simp] theorem takeSnap_glitch (s : State) : (takeSnap s).glitch = s.glitch := rfl
@[simp] theorem takeSnap_relerr (s : State) : (takeSnap s).relerr = s.relerr := rfl
@[simp] theorem takeSnap_ovr (s : State) : (takeSnap s).ovr = s.ovr := rfl
@[simp] theorem takeSnap_result (s : State) : (takeSnap s).result = s.result := rfl
@[simp] theorem takeSnap_cfgPins (s : State) : (takeSnap s).cfgPins = s.cfgPins := rfl
@[simp] theorem takeSnap_cfgDelay (s : State) : (takeSnap s).cfgDelay = s.cfgDelay := rfl
@[simp] theorem takeSnap_cfgOpt (s : State) : (takeSnap s).cfgOpt = s.cfgOpt := rfl
@[simp] theorem takeSnap_actPins (s : State) : (takeSnap s).actPins = s.actPins := rfl
@[simp] theorem takeSnap_actDelay (s : State) : (takeSnap s).actDelay = s.actDelay := rfl
@[simp] theorem takeSnap_actOpt (s : State) : (takeSnap s).actOpt = s.actOpt := rfl
@[simp] theorem takeSnap_phase (s : State) : (takeSnap s).phase = s.phase := rfl
@[simp] theorem takeSnap_cur (s : State) : (takeSnap s).cur = s.cur := rfl
@[simp] theorem takeSnap_seq (s : State) : (takeSnap s).seq = s.seq := rfl
@[simp] theorem takeSnap_aborted (s : State) : (takeSnap s).aborted = s.aborted := rfl
@[simp] theorem takeSnap_nextState (s : State) : (takeSnap s).nextState = s.nextState := rfl
@[simp] theorem takeSnap_sr (s : State) : (takeSnap s).sr = s.sr := rfl
@[simp] theorem takeSnap_nread (s : State) : (takeSnap s).nread = s.nread := rfl
@[simp] theorem takeSnap_snap (s : State) : (takeSnap s).snap = ⟨s.cfgPins, s.cfgDelay, s.cfgOpt⟩ := rfl
@[simp] theorem takeSnap_handshake (s : State) : (takeSnap s).handshake = s.handshake := rfl
@[simp] theorem takeSnap_orphans (s : State) : (takeSnap s).orphans = s.orphans := rfl
@[simp] theorem takeSnap_rstN (s : State) : (takeSnap s).rstN = s.rstN := rfl
@[simp] theorem takeSnap_rdata (s : State) : (takeSnap s).rdata = s.rdata := rfl
@[simp] theorem takeSnap_agenda (s : State) : (takeSnap s).agenda = s.agenda := rfl
@[simp] theorem takeSnap_replies (s : State) : (takeSnap s).replies = s.replies := rfl
@[simp] theorem takeSnap_draws (s : State) : (takeSnap s).draws = s.draws := rfl
@[simp] theorem takeSnap_invalidPins (s : State) : (takeSnap s).invalidPins = s.invalidPins := rfl
@[simp] theorem takeSnap_trace (s : State) : (takeSnap s).trace = s.trace := rfl

/-! ## latchActive -/

@[simp] theorem latchActive_cmd (s : State) : (latchActive s).cmd = s.cmd := rfl
@[simp] theorem latchActive_state (s : State) : (latchActive s).state = s.state := rfl
@[simp] theorem latchActive_busy (s : State) : (latchActive s).busy = s.busy := rfl
@[simp] theorem latchActive_err (s : State) : (latchActive s).err = s.err := rfl
@[simp] theorem latchActive_glitch (s : State) : (latchActive s).glitch = s.glitch := rfl
@[simp] theorem latchActive_relerr (s : State) : (latchActive s).relerr = s.relerr := rfl
@[simp] theorem latchActive_ovr (s : State) : (latchActive s).ovr = s.ovr := rfl
@[simp] theorem latchActive_result (s : State) : (latchActive s).result = s.result := rfl
@[simp] theorem latchActive_cfgPins (s : State) : (latchActive s).cfgPins = s.cfgPins := rfl
@[simp] theorem latchActive_cfgDelay (s : State) : (latchActive s).cfgDelay = s.cfgDelay := rfl
@[simp] theorem latchActive_cfgOpt (s : State) : (latchActive s).cfgOpt = s.cfgOpt := rfl
@[simp] theorem latchActive_actPins (s : State) : (latchActive s).actPins = s.snap.pins := rfl
@[simp] theorem latchActive_actDelay (s : State) : (latchActive s).actDelay = s.snap.delay := rfl
@[simp] theorem latchActive_actOpt (s : State) : (latchActive s).actOpt = s.snap.opt := rfl
@[simp] theorem latchActive_phase (s : State) : (latchActive s).phase = s.phase := rfl
@[simp] theorem latchActive_cur (s : State) : (latchActive s).cur = s.cur := rfl
@[simp] theorem latchActive_seq (s : State) : (latchActive s).seq = s.seq := rfl
@[simp] theorem latchActive_aborted (s : State) : (latchActive s).aborted = s.aborted := rfl
@[simp] theorem latchActive_nextState (s : State) : (latchActive s).nextState = s.nextState := rfl
@[simp] theorem latchActive_sr (s : State) : (latchActive s).sr = s.sr := rfl
@[simp] theorem latchActive_nread (s : State) : (latchActive s).nread = s.nread := rfl
@[simp] theorem latchActive_snap (s : State) : (latchActive s).snap = s.snap := rfl
@[simp] theorem latchActive_handshake (s : State) : (latchActive s).handshake = s.handshake := rfl
@[simp] theorem latchActive_orphans (s : State) : (latchActive s).orphans = s.orphans := rfl
@[simp] theorem latchActive_rstN (s : State) : (latchActive s).rstN = s.rstN := rfl
@[simp] theorem latchActive_rdata (s : State) : (latchActive s).rdata = s.rdata := rfl
@[simp] theorem latchActive_agenda (s : State) : (latchActive s).agenda = s.agenda := rfl
@[simp] theorem latchActive_replies (s : State) : (latchActive s).replies = s.replies := rfl
@[simp] theorem latchActive_draws (s : State) : (latchActive s).draws = s.draws := rfl
@[simp] theorem latchActive_invalidPins (s : State) : (latchActive s).invalidPins = s.invalidPins := rfl
@[simp] theorem latchActive_trace (s : State) : (latchActive s).trace = s.trace := rfl

/-! ## clearSticky -/

@[simp] theorem clearSticky_cmd (w : Word) (s : State) : (clearSticky w s).cmd = s.cmd := rfl
@[simp] theorem clearSticky_state (w : Word) (s : State) : (clearSticky w s).state = s.state := rfl
@[simp] theorem clearSticky_busy (w : Word) (s : State) : (clearSticky w s).busy = s.busy := rfl
@[simp] theorem clearSticky_err (w : Word) (s : State) : (clearSticky w s).err = s.err := rfl
@[simp] theorem clearSticky_glitch (w : Word) (s : State) :
    (clearSticky w s).glitch = stickyAfterWrite s.glitch (w.getLsbD 8) := rfl
@[simp] theorem clearSticky_relerr (w : Word) (s : State) :
    (clearSticky w s).relerr = stickyAfterWrite s.relerr (w.getLsbD 9) := rfl
@[simp] theorem clearSticky_ovr (w : Word) (s : State) :
    (clearSticky w s).ovr = stickyAfterWrite s.ovr (w.getLsbD 10) := rfl
@[simp] theorem clearSticky_result (w : Word) (s : State) : (clearSticky w s).result = s.result := rfl
@[simp] theorem clearSticky_cfgPins (w : Word) (s : State) : (clearSticky w s).cfgPins = s.cfgPins := rfl
@[simp] theorem clearSticky_cfgDelay (w : Word) (s : State) : (clearSticky w s).cfgDelay = s.cfgDelay := rfl
@[simp] theorem clearSticky_cfgOpt (w : Word) (s : State) : (clearSticky w s).cfgOpt = s.cfgOpt := rfl
@[simp] theorem clearSticky_actPins (w : Word) (s : State) : (clearSticky w s).actPins = s.actPins := rfl
@[simp] theorem clearSticky_actDelay (w : Word) (s : State) : (clearSticky w s).actDelay = s.actDelay := rfl
@[simp] theorem clearSticky_actOpt (w : Word) (s : State) : (clearSticky w s).actOpt = s.actOpt := rfl
@[simp] theorem clearSticky_phase (w : Word) (s : State) : (clearSticky w s).phase = s.phase := rfl
@[simp] theorem clearSticky_cur (w : Word) (s : State) : (clearSticky w s).cur = s.cur := rfl
@[simp] theorem clearSticky_seq (w : Word) (s : State) : (clearSticky w s).seq = s.seq := rfl
@[simp] theorem clearSticky_aborted (w : Word) (s : State) : (clearSticky w s).aborted = s.aborted := rfl
@[simp] theorem clearSticky_nextState (w : Word) (s : State) :
    (clearSticky w s).nextState = s.nextState := rfl
@[simp] theorem clearSticky_sr (w : Word) (s : State) : (clearSticky w s).sr = s.sr := rfl
@[simp] theorem clearSticky_nread (w : Word) (s : State) : (clearSticky w s).nread = s.nread := rfl
@[simp] theorem clearSticky_snap (w : Word) (s : State) : (clearSticky w s).snap = s.snap := rfl
@[simp] theorem clearSticky_handshake (w : Word) (s : State) :
    (clearSticky w s).handshake = s.handshake := rfl
@[simp] theorem clearSticky_orphans (w : Word) (s : State) : (clearSticky w s).orphans = s.orphans := rfl
@[simp] theorem clearSticky_rstN (w : Word) (s : State) : (clearSticky w s).rstN = s.rstN := rfl
@[simp] theorem clearSticky_rdata (w : Word) (s : State) : (clearSticky w s).rdata = s.rdata := rfl
@[simp] theorem clearSticky_agenda (w : Word) (s : State) : (clearSticky w s).agenda = s.agenda := rfl
@[simp] theorem clearSticky_replies (w : Word) (s : State) : (clearSticky w s).replies = s.replies := rfl
@[simp] theorem clearSticky_draws (w : Word) (s : State) : (clearSticky w s).draws = s.draws := rfl
@[simp] theorem clearSticky_invalidPins (w : Word) (s : State) :
    (clearSticky w s).invalidPins = s.invalidPins := rfl
@[simp] theorem clearSticky_trace (w : Word) (s : State) : (clearSticky w s).trace = s.trace := rfl

/-! ## takeMove -/

@[simp] theorem takeMove_cmd (s : State) : (takeMove s).cmd = s.cmd := rfl
@[simp] theorem takeMove_state (s : State) : (takeMove s).state = s.state := rfl
@[simp] theorem takeMove_busy (s : State) : (takeMove s).busy = s.busy := rfl
@[simp] theorem takeMove_err (s : State) : (takeMove s).err = s.err := rfl
@[simp] theorem takeMove_glitch (s : State) : (takeMove s).glitch = s.glitch := rfl
@[simp] theorem takeMove_relerr (s : State) : (takeMove s).relerr = s.relerr := rfl
@[simp] theorem takeMove_ovr (s : State) : (takeMove s).ovr = s.ovr := rfl
@[simp] theorem takeMove_result (s : State) : (takeMove s).result = s.result := rfl
@[simp] theorem takeMove_cfgPins (s : State) : (takeMove s).cfgPins = s.cfgPins := rfl
@[simp] theorem takeMove_cfgDelay (s : State) : (takeMove s).cfgDelay = s.cfgDelay := rfl
@[simp] theorem takeMove_cfgOpt (s : State) : (takeMove s).cfgOpt = s.cfgOpt := rfl
@[simp] theorem takeMove_actPins (s : State) : (takeMove s).actPins = s.actPins := rfl
@[simp] theorem takeMove_actDelay (s : State) : (takeMove s).actDelay = s.actDelay := rfl
@[simp] theorem takeMove_actOpt (s : State) : (takeMove s).actOpt = s.actOpt := rfl
@[simp] theorem takeMove_phase (s : State) : (takeMove s).phase = s.phase := rfl
@[simp] theorem takeMove_cur (s : State) : (takeMove s).cur = s.cur := rfl
@[simp] theorem takeMove_seq (s : State) : (takeMove s).seq = s.seq := rfl
@[simp] theorem takeMove_aborted (s : State) : (takeMove s).aborted = s.aborted := rfl
@[simp] theorem takeMove_nextState (s : State) : (takeMove s).nextState = s.nextState := rfl
@[simp] theorem takeMove_sr (s : State) : (takeMove s).sr = s.sr := rfl
@[simp] theorem takeMove_nread (s : State) : (takeMove s).nread = s.nread := rfl
@[simp] theorem takeMove_snap (s : State) : (takeMove s).snap = s.snap := rfl
@[simp] theorem takeMove_handshake (s : State) : (takeMove s).handshake = s.handshake := rfl
@[simp] theorem takeMove_orphans (s : State) : (takeMove s).orphans = s.orphans := rfl
@[simp] theorem takeMove_rstN (s : State) : (takeMove s).rstN = s.rstN := rfl
@[simp] theorem takeMove_rdata (s : State) : (takeMove s).rdata = s.rdata := rfl
@[simp] theorem takeMove_agenda (s : State) : (takeMove s).agenda = s.agenda.tail := rfl
@[simp] theorem takeMove_replies (s : State) : (takeMove s).replies = s.replies := rfl
@[simp] theorem takeMove_draws (s : State) : (takeMove s).draws = s.draws := rfl
@[simp] theorem takeMove_invalidPins (s : State) : (takeMove s).invalidPins = s.invalidPins := rfl
@[simp] theorem takeMove_trace (s : State) : (takeMove s).trace = s.trace := rfl

/-! ## hardReset -/

@[simp] theorem hardReset_cmd (s : State) : (hardReset s).cmd = State.reset.cmd := rfl
@[simp] theorem hardReset_state (s : State) : (hardReset s).state = State.reset.state := rfl
@[simp] theorem hardReset_busy (s : State) : (hardReset s).busy = State.reset.busy := rfl
@[simp] theorem hardReset_err (s : State) : (hardReset s).err = State.reset.err := rfl
@[simp] theorem hardReset_glitch (s : State) : (hardReset s).glitch = State.reset.glitch := rfl
@[simp] theorem hardReset_relerr (s : State) : (hardReset s).relerr = State.reset.relerr := rfl
@[simp] theorem hardReset_ovr (s : State) : (hardReset s).ovr = State.reset.ovr := rfl
@[simp] theorem hardReset_result (s : State) : (hardReset s).result = State.reset.result := rfl
@[simp] theorem hardReset_cfgPins (s : State) : (hardReset s).cfgPins = State.reset.cfgPins := rfl
@[simp] theorem hardReset_cfgDelay (s : State) : (hardReset s).cfgDelay = State.reset.cfgDelay := rfl
@[simp] theorem hardReset_cfgOpt (s : State) : (hardReset s).cfgOpt = State.reset.cfgOpt := rfl
@[simp] theorem hardReset_actPins (s : State) : (hardReset s).actPins = State.reset.actPins := rfl
@[simp] theorem hardReset_actDelay (s : State) : (hardReset s).actDelay = State.reset.actDelay := rfl
@[simp] theorem hardReset_actOpt (s : State) : (hardReset s).actOpt = State.reset.actOpt := rfl
@[simp] theorem hardReset_phase (s : State) : (hardReset s).phase = State.reset.phase := rfl
@[simp] theorem hardReset_cur (s : State) : (hardReset s).cur = State.reset.cur := rfl
@[simp] theorem hardReset_seq (s : State) : (hardReset s).seq = State.reset.seq := rfl
@[simp] theorem hardReset_aborted (s : State) : (hardReset s).aborted = State.reset.aborted := rfl
@[simp] theorem hardReset_nextState (s : State) : (hardReset s).nextState = State.reset.nextState := rfl
@[simp] theorem hardReset_sr (s : State) : (hardReset s).sr = State.reset.sr := rfl
@[simp] theorem hardReset_nread (s : State) : (hardReset s).nread = State.reset.nread := rfl
@[simp] theorem hardReset_snap (s : State) : (hardReset s).snap = State.reset.snap := rfl
@[simp] theorem hardReset_handshake (s : State) : (hardReset s).handshake = State.reset.handshake := rfl
@[simp] theorem hardReset_orphans (s : State) :
    (hardReset s).orphans = if s.handshake = .taken then s.orphans + 1 else s.orphans := rfl
@[simp] theorem hardReset_rstN (s : State) : (hardReset s).rstN = s.rstN := rfl
@[simp] theorem hardReset_rdata (s : State) : (hardReset s).rdata = s.rdata := rfl
@[simp] theorem hardReset_agenda (s : State) : (hardReset s).agenda = s.agenda := rfl
@[simp] theorem hardReset_replies (s : State) : (hardReset s).replies = s.replies := rfl
@[simp] theorem hardReset_draws (s : State) : (hardReset s).draws = s.draws := rfl
@[simp] theorem hardReset_invalidPins (s : State) : (hardReset s).invalidPins = s.invalidPins := rfl
@[simp] theorem hardReset_trace (s : State) : (hardReset s).trace = eventTrace s := rfl

/-! ## consumeReply -/

@[simp] theorem consumeReply_cmd (s : State) : (consumeReply s).cmd = s.cmd := by
  unfold consumeReply; split <;> rfl
@[simp] theorem consumeReply_state (s : State) : (consumeReply s).state = s.state := by
  unfold consumeReply; split <;> rfl
@[simp] theorem consumeReply_busy (s : State) : (consumeReply s).busy = s.busy := by
  unfold consumeReply; split <;> rfl
@[simp] theorem consumeReply_err (s : State) : (consumeReply s).err = s.err := by
  unfold consumeReply; split <;> rfl
@[simp] theorem consumeReply_glitch (s : State) : (consumeReply s).glitch = s.glitch := by
  unfold consumeReply; split <;> rfl
@[simp] theorem consumeReply_relerr (s : State) : (consumeReply s).relerr = s.relerr := by
  unfold consumeReply; split <;> rfl
@[simp] theorem consumeReply_ovr (s : State) : (consumeReply s).ovr = s.ovr := by
  unfold consumeReply; split <;> rfl
@[simp] theorem consumeReply_result (s : State) : (consumeReply s).result = s.result := by
  unfold consumeReply; split <;> rfl
@[simp] theorem consumeReply_cfgPins (s : State) : (consumeReply s).cfgPins = s.cfgPins := by
  unfold consumeReply; split <;> rfl
@[simp] theorem consumeReply_cfgDelay (s : State) : (consumeReply s).cfgDelay = s.cfgDelay := by
  unfold consumeReply; split <;> rfl
@[simp] theorem consumeReply_cfgOpt (s : State) : (consumeReply s).cfgOpt = s.cfgOpt := by
  unfold consumeReply; split <;> rfl
@[simp] theorem consumeReply_actPins (s : State) : (consumeReply s).actPins = s.actPins := by
  unfold consumeReply; split <;> rfl
@[simp] theorem consumeReply_actDelay (s : State) : (consumeReply s).actDelay = s.actDelay := by
  unfold consumeReply; split <;> rfl
@[simp] theorem consumeReply_actOpt (s : State) : (consumeReply s).actOpt = s.actOpt := by
  unfold consumeReply; split <;> rfl
@[simp] theorem consumeReply_phase (s : State) : (consumeReply s).phase = s.phase := by
  unfold consumeReply; split <;> rfl
@[simp] theorem consumeReply_cur (s : State) : (consumeReply s).cur = s.cur := by
  unfold consumeReply; split <;> rfl
@[simp] theorem consumeReply_seq (s : State) : (consumeReply s).seq = s.seq := by
  unfold consumeReply; split <;> rfl
@[simp] theorem consumeReply_aborted (s : State) : (consumeReply s).aborted = s.aborted := by
  unfold consumeReply; split <;> rfl
@[simp] theorem consumeReply_nextState (s : State) : (consumeReply s).nextState = s.nextState := by
  unfold consumeReply; split <;> rfl
@[simp] theorem consumeReply_sr (s : State) : (consumeReply s).sr = s.sr := by
  unfold consumeReply; split <;> rfl
@[simp] theorem consumeReply_nread (s : State) : (consumeReply s).nread = s.nread := by
  unfold consumeReply; split <;> rfl
@[simp] theorem consumeReply_snap (s : State) : (consumeReply s).snap = s.snap := by
  unfold consumeReply; split <;> rfl
@[simp] theorem consumeReply_handshake (s : State) : (consumeReply s).handshake = s.handshake := by
  unfold consumeReply; split <;> rfl
@[simp] theorem consumeReply_orphans (s : State) : (consumeReply s).orphans = s.orphans := by
  unfold consumeReply; split <;> rfl
@[simp] theorem consumeReply_rstN (s : State) : (consumeReply s).rstN = s.rstN := by
  unfold consumeReply; split <;> rfl
@[simp] theorem consumeReply_rdata (s : State) : (consumeReply s).rdata = s.rdata := by
  unfold consumeReply; split <;> rfl
@[simp] theorem consumeReply_agenda (s : State) : (consumeReply s).agenda = s.agenda := by
  unfold consumeReply; split <;> rfl
@[simp] theorem consumeReply_invalidPins (s : State) : (consumeReply s).invalidPins = s.invalidPins := by
  unfold consumeReply; split <;> rfl
@[simp] theorem consumeReply_trace (s : State) : (consumeReply s).trace = s.trace := by
  unfold consumeReply; split <;> rfl

/-! ## storeLevel -/

@[simp] theorem storeLevel_cmd (b : Bool) (s : State) : (storeLevel b s).cmd = s.cmd := by
  unfold storeLevel; split <;> rfl
@[simp] theorem storeLevel_state (b : Bool) (s : State) : (storeLevel b s).state = s.state := by
  unfold storeLevel; split <;> rfl
@[simp] theorem storeLevel_busy (b : Bool) (s : State) : (storeLevel b s).busy = s.busy := by
  unfold storeLevel; split <;> rfl
@[simp] theorem storeLevel_err (b : Bool) (s : State) : (storeLevel b s).err = s.err := by
  unfold storeLevel; split <;> rfl
@[simp] theorem storeLevel_glitch (b : Bool) (s : State) : (storeLevel b s).glitch = s.glitch := by
  unfold storeLevel; split <;> rfl
@[simp] theorem storeLevel_relerr (b : Bool) (s : State) : (storeLevel b s).relerr = s.relerr := by
  unfold storeLevel; split <;> rfl
@[simp] theorem storeLevel_ovr (b : Bool) (s : State) : (storeLevel b s).ovr = s.ovr := by
  unfold storeLevel; split <;> rfl
@[simp] theorem storeLevel_result (b : Bool) (s : State) : (storeLevel b s).result = s.result := by
  unfold storeLevel; split <;> rfl
@[simp] theorem storeLevel_cfgPins (b : Bool) (s : State) : (storeLevel b s).cfgPins = s.cfgPins := by
  unfold storeLevel; split <;> rfl
@[simp] theorem storeLevel_cfgDelay (b : Bool) (s : State) : (storeLevel b s).cfgDelay = s.cfgDelay := by
  unfold storeLevel; split <;> rfl
@[simp] theorem storeLevel_cfgOpt (b : Bool) (s : State) : (storeLevel b s).cfgOpt = s.cfgOpt := by
  unfold storeLevel; split <;> rfl
@[simp] theorem storeLevel_actPins (b : Bool) (s : State) : (storeLevel b s).actPins = s.actPins := by
  unfold storeLevel; split <;> rfl
@[simp] theorem storeLevel_actDelay (b : Bool) (s : State) : (storeLevel b s).actDelay = s.actDelay := by
  unfold storeLevel; split <;> rfl
@[simp] theorem storeLevel_actOpt (b : Bool) (s : State) : (storeLevel b s).actOpt = s.actOpt := by
  unfold storeLevel; split <;> rfl
@[simp] theorem storeLevel_phase (b : Bool) (s : State) : (storeLevel b s).phase = s.phase := by
  unfold storeLevel; split <;> rfl
@[simp] theorem storeLevel_cur (b : Bool) (s : State) : (storeLevel b s).cur = s.cur := by
  unfold storeLevel; split <;> rfl
@[simp] theorem storeLevel_seq (b : Bool) (s : State) : (storeLevel b s).seq = s.seq := by
  unfold storeLevel; split <;> rfl
@[simp] theorem storeLevel_aborted (b : Bool) (s : State) : (storeLevel b s).aborted = s.aborted := by
  unfold storeLevel; split <;> rfl
@[simp] theorem storeLevel_nextState (b : Bool) (s : State) : (storeLevel b s).nextState = s.nextState := by
  unfold storeLevel; split <;> rfl
@[simp] theorem storeLevel_snap (b : Bool) (s : State) : (storeLevel b s).snap = s.snap := by
  unfold storeLevel; split <;> rfl
@[simp] theorem storeLevel_handshake (b : Bool) (s : State) : (storeLevel b s).handshake = s.handshake := by
  unfold storeLevel; split <;> rfl
@[simp] theorem storeLevel_orphans (b : Bool) (s : State) : (storeLevel b s).orphans = s.orphans := by
  unfold storeLevel; split <;> rfl
@[simp] theorem storeLevel_rstN (b : Bool) (s : State) : (storeLevel b s).rstN = s.rstN := by
  unfold storeLevel; split <;> rfl
@[simp] theorem storeLevel_rdata (b : Bool) (s : State) : (storeLevel b s).rdata = s.rdata := by
  unfold storeLevel; split <;> rfl
@[simp] theorem storeLevel_agenda (b : Bool) (s : State) : (storeLevel b s).agenda = s.agenda := by
  unfold storeLevel; split <;> rfl
@[simp] theorem storeLevel_replies (b : Bool) (s : State) : (storeLevel b s).replies = s.replies := by
  unfold storeLevel; split <;> rfl
@[simp] theorem storeLevel_draws (b : Bool) (s : State) : (storeLevel b s).draws = s.draws := by
  unfold storeLevel; split <;> rfl
@[simp] theorem storeLevel_invalidPins (b : Bool) (s : State) : (storeLevel b s).invalidPins = s.invalidPins := by
  unfold storeLevel; split <;> rfl
@[simp] theorem storeLevel_trace (b : Bool) (s : State) : (storeLevel b s).trace = s.trace := by
  unfold storeLevel; split <;> rfl

end Sys2Proof.Machine
end

