-- ==== Sys2Proof/Laws/Engine.lean ====
section
/-! SUPPORT. What each shared operation of the command engine can do, said once: replies, event steps,
completions, the Controller's step and the machine's step. -/

namespace Sys2Proof.Machine

open Sys2Proof

/-! ## Replies -/

theorem nextReply_cons {s : State} {r : PinReply} {rest : List PinReply} (h : s.replies = r :: rest) :
    nextReply s = r := by
  simp [nextReply, h]

theorem consumeReply_cons {s : State} {r : PinReply} {rest : List PinReply} (h : s.replies = r :: rest) :
    consumeReply s = { s with replies := rest } := by
  simp [consumeReply, h]

/-- Past the listed replies the answer is a free value (log 4). -/
theorem nextReply_nil {s : State} (h : s.replies = []) : nextReply s = Config.pinReply s.draws := by
  simp [nextReply, h]

theorem consumeReply_nil {s : State} (h : s.replies = []) :
    consumeReply s = { s with draws := s.draws + 1 } := by
  simp [consumeReply, h]

/-! ## The event trace -/

theorem inFlight_of_not_taken {s : State} (h : s.handshake ≠ .taken) : inFlight s = [] := by
  unfold inFlight; split
  · contradiction
  · rfl

theorem inFlight_taken {s : State} {e : Event} {tag : Tag} {rest : List (Event × Tag)}
    (h : s.handshake = .taken) (hs : s.seq = (e, tag) :: rest) : inFlight s = [⟨e, none⟩] := by
  simp [inFlight, h, hs]

theorem eventTrace_of_not_taken {s : State} (h : s.handshake ≠ .taken) : eventTrace s = s.trace := by
  simp [eventTrace, inFlight_of_not_taken h]

theorem eventTrace_taken {s : State} {e : Event} {tag : Tag} {rest : List (Event × Tag)}
    (h : s.handshake = .taken) (hs : s.seq = (e, tag) :: rest) :
    eventTrace s = s.trace ++ [⟨e, none⟩] := by
  simp [eventTrace, inFlight_taken h hs]

/-- A reset leaves the event trace as it stands. -/
@[simp] theorem eventTrace_hardReset (s : State) : eventTrace (hardReset s) = eventTrace s := by
  rw [eventTrace_of_not_taken (by simp [State.reset])]; rfl

/-- The reset values are kept by another reset. -/
@[simp] theorem hardReset_hardReset (s : State) : hardReset (hardReset s) = hardReset s := by
  have h : hardReset (hardReset s) = { hardReset s with trace := eventTrace (hardReset s) } := rfl
  rw [h, eventTrace_hardReset]; rfl

@[simp] theorem eventTrace_takeMove (s : State) : eventTrace (takeMove s) = eventTrace s := rfl

/-! ## Event steps -/

/-- Every event but a Delay is a pin operation (30_encoding.md R89). -/
theorem eventStep_pinOp {e : Event} (h : e.isPinOp = true) (tag : Tag) (rest : List (Event × Tag))
    (s : State) : eventStep e tag rest s = pinOpStep e tag rest s := by
  cases e <;> first | rfl | simp [Event.isPinOp] at h

@[simp] theorem eventStep_delay (ns : Word) (tag : Tag) (rest : List (Event × Tag)) (s : State) :
    eventStep (.delay ns) tag rest s = retire (.delay ns) rest none s := rfl

theorem pinOpStep_answered {s : State} {a : PinAnswer} (h : nextReply s = .answered a) (e : Event)
    (tag : Tag) (rest : List (Event × Tag)) :
    pinOpStep e tag rest s = finishPinOp e tag rest a (consumeReply s) := by
  simp [pinOpStep, h]

theorem pinOpStep_notReady {s : State} (h : nextReply s = .notReady) (e : Event)
    (tag : Tag) (rest : List (Event × Tag)) :
    pinOpStep e tag rest s =
      { consumeReply s with handshake := waitHandshake false s.handshake } := by
  simp [pinOpStep, h]

theorem pinOpStep_pending {s : State} (h : nextReply s = .pending) (e : Event)
    (tag : Tag) (rest : List (Event × Tag)) :
    pinOpStep e tag rest s = { consumeReply s with handshake := waitHandshake true s.handshake } := by
  simp [pinOpStep, h]

/-- What one pin operation step can do: wait, abort, note a release error, store a level, or advance. -/
theorem pinOpStep_cases (e : Event) (tag : Tag) (rest : List (Event × Tag)) (s : State) :
    (∃ h, (h = .presented ∨ h = .taken) ∧
      pinOpStep e tag rest s = { consumeReply s with handshake := h }) ∨
    (∃ a, nextReply s = .answered a ∧
      ((a.err = true ∧ tag = .normal ∧
          pinOpStep e tag rest s = abort (retire e rest (some a) (consumeReply s))) ∨
       (a.err = true ∧ tag = .release ∧
          pinOpStep e tag rest s = { retire e rest (some a) (consumeReply s) with relerr := true }) ∨
       (a.err = false ∧ e.isRead = true ∧
          pinOpStep e tag rest s = storeLevel a.level (retire e rest (some a) (consumeReply s))) ∨
       (a.err = false ∧ e.isRead = false ∧
          pinOpStep e tag rest s = retire e rest (some a) (consumeReply s)))) := by
  cases h : nextReply s with
  | notReady =>
    refine .inl ⟨_, ?_, pinOpStep_notReady h e tag rest⟩
    cases s.handshake <;> simp [waitHandshake]
  | pending => exact .inl ⟨_, .inr rfl, pinOpStep_pending h e tag rest⟩
  | answered a =>
    refine .inr ⟨a, rfl, ?_⟩
    rw [pinOpStep_answered h]
    cases ha : a.err <;> cases tag <;> cases hr : e.isRead <;> simp [finishPinOp, pinError, ha, hr]

/-- A level stored is read back at its place, and every other level stays (41_command_engine.md R123). -/
theorem getLsbD_setLevel (sr : BitVec 16) (k j : Nat) (b : Bool) (hk : k < 16) :
    (setLevel sr k b).getLsbD j = if j = k then b else sr.getLsbD j := by
  unfold setLevel
  by_cases hj : j < 16
  · cases b
    · by_cases h : j = k
      · subst h; simp
      · by_cases h2 : j < k
        · simp [h, h2, hj]
        · have : j - k ≠ 0 := by omega
          simp [h, h2, this, hj]
    · by_cases h : j = k
      · subst h; simp [hj]
      · by_cases h2 : j < k
        · simp [h, h2, hj]
        · have : j - k ≠ 0 := by omega
          simp [h, h2, this, hj]
  · have h : j ≠ k := by omega
    rw [if_neg h, BitVec.getLsbD_of_ge _ _ (by omega), BitVec.getLsbD_of_ge _ _ (by omega)]

theorem storeLevel_of_lt {s : State} (b : Bool) (h : s.nread < 16) :
    storeLevel b s = { s with sr := setLevel s.sr s.nread b, nread := s.nread + 1 } := by
  simp [storeLevel, h]

theorem storeLevel_nread_le {s : State} (b : Bool) (h : s.nread ≤ 16) : (storeLevel b s).nread ≤ 16 := by
  unfold storeLevel; split
  · show s.nread + 1 ≤ 16; omega
  · exact h

/-! ## Completion -/

theorem completionStep_aborted {s : State} (onOk : State → State) (h : s.aborted = true) :
    completionStep onOk s =
      { s with err := .busError, state := s.nextState, busy := false, phase := .none } := by
  simp [completionStep, h]

theorem completionStep_ok {s : State} (onOk : State → State) (h : s.aborted = false) :
    completionStep onOk s =
      { onOk s with err := .ok, state := s.nextState, busy := false, phase := .none } := by
  simp [completionStep, h]

/-! ## The Controller's step -/

theorem commandStep_none {s : State} (c o : State → State) (h : s.phase = .none) :
    commandStep c o s = s := by
  simp [commandStep, h]

theorem commandStep_check {s : State} (c o : State → State) (h : s.phase = .check) :
    commandStep c o s = c s := by
  simp [commandStep, h]

theorem commandStep_done {s : State} (c o : State → State) (h : s.phase = .run) (hs : s.seq = []) :
    commandStep c o s = completionStep o s := by
  simp [commandStep, h, hs]

theorem commandStep_event {s : State} {e : Event} {tag : Tag} {rest : List (Event × Tag)}
    (c o : State → State) (h : s.phase = .run) (hs : s.seq = (e, tag) :: rest) :
    commandStep c o s = eventStep e tag rest s := by
  simp [commandStep, h, hs]

/-- The check step of each command (41_command_engine.md R122). -/
def checkOf : Instr → State → State
  | .setup => fun t => setupCheck (beginCheck t)
  | .read ch => fun t => readCheck ch (beginCheck t)
  | .readBoth ch => fun t => readCheck ch (beginCheck t)
  | .teardown => fun t => teardownCheck (beginCheck t)

/-- What each command's own completion adds (41_command_engine.md R127). -/
def onOkOf : Instr → State → State
  | .setup => id
  | .read _ => reconcile false
  | .readBoth _ => reconcile true
  | .teardown => id

/-- Every command is the Controller's step with that command's check and completion. -/
theorem exec_eq (i : Instr) (s : State) : exec i s = .next (commandStep (checkOf i) (onOkOf i) s) := by
  cases i <;> rfl

/-! ## Ownership -/

/-- Between commands, and while a read runs, ownership follows from STATE alone (10_state.md R41). -/
theorem ownedPins_of_state {s : State} (h : s.phase = .run → isReadWord s.cur = true) :
    ownedPins s = if s.state = .idle ∨ s.state = .inTransaction then s.actPins.all else [] := by
  unfold ownedPins
  rw [if_neg (by rintro ⟨hp, hr⟩; simp [h hp] at hr)]
  cases s.state <;> simp

theorem ownedPins_of_run {s : State} (hp : s.phase = .run) (hr : isReadWord s.cur = false) :
    ownedPins s = ownedMidCommand s := by
  simp [ownedPins, hp, hr]

@[simp] theorem releasesLeft_append (q r : List (Event × Tag)) :
    releasesLeft (q ++ r) = releasesLeft q ++ releasesLeft r :=
  List.filterMap_append

@[simp] theorem releasesLeft_safeRelease (a : Pins) (d : Word) :
    releasesLeft (safeRelease a d) = a.all := rfl

@[simp] theorem releasesLeft_configure (a : Pins) (d : Word) : releasesLeft (configure a d) = [] := rfl

/-! ## Progress -/

theorem abortEventsLeft_le (q : List (Event × Tag)) : abortEventsLeft q ≤ 12 := by
  unfold abortEventsLeft; split <;> omega

theorem abortEventsLeft_normal (e : Event) (q : List (Event × Tag)) :
    abortEventsLeft ((e, .normal) :: q) = 12 := by
  simp [abortEventsLeft]

@[simp] theorem abortEventsLeft_release (e : Event) (q : List (Event × Tag)) :
    abortEventsLeft ((e, .release) :: q) = abortEventsLeft q := rfl

theorem abortEventsLeft_tail_le (x : Event × Tag) (q : List (Event × Tag)) :
    abortEventsLeft q ≤ abortEventsLeft (x :: q) := by
  obtain ⟨e, tag⟩ := x
  cases tag
  · rw [abortEventsLeft_normal]; exact abortEventsLeft_le q
  · rw [abortEventsLeft_release]

theorem turnsLeft_none {s : State} (h : s.phase = .none) : turnsLeft s = 0 := by
  simp [turnsLeft, h]

theorem turnsLeft_check {s : State} (h : s.phase = .check) : turnsLeft s = 126 := by
  simp [turnsLeft, h]

theorem turnsLeft_run {s : State} (h : s.phase = .run) :
    turnsLeft s = s.seq.length + abortEventsLeft s.seq + 1 := by
  simp [turnsLeft, h]

theorem turnsLeft_congr {s t : State} (hp : t.phase = s.phase) (hq : t.seq = s.seq) :
    turnsLeft t = turnsLeft s := by
  simp only [turnsLeft, hp, hq]

theorem turnsLeft_eq_zero (s : State) : turnsLeft s = 0 ↔ s.phase = .none := by
  unfold turnsLeft; split <;> simp_all

/-! ## The machine's step -/

@[simp] theorem nextReply_takeMove (s : State) : nextReply (takeMove s) = nextReply s := rfl

theorem underReset_of_rstN {s : State} (h : s.rstN = true) : underReset s = s := by
  simp [underReset, h]

theorem underReset_of_not_rstN {s : State} (h : s.rstN = false) : underReset s = hardReset s := by
  simp [underReset, h]

/-- What the Controller's turn answers: the step of the command CUR spells, or ILLEGAL_COMMAND's. -/
theorem controllerTurn_eq (s : State) :
    controllerTurn s = .next (match decode s.cur with
      | .ok i => commandStep (checkOf i) (onOkOf i) s
      | .error _ => illegalStep s) := by
  unfold controllerTurn
  cases decode s.cur <;> simp [exec_eq]

/-- On the Controller's turn the step is that turn, the move off the agenda. -/
theorem step_controller {s : State} (h : ControllerMoves s) : step s = controllerTurn (takeMove s) := by
  simp [step, stepOnce, h.2, performMove, underReset, h.1]

theorem step_host {s : State} {a : HostAccess} (hr : s.rstN = true) (h : nextMove s = .host a) :
    step s = .next (hostAccess a (takeMove s)) := by
  simp [step, stepOnce, h, performMove, underReset, hr]

theorem step_rst {s : State} {b : Bool} (hr : s.rstN = true) (h : nextMove s = .rst b) :
    step s = .next (driveReset b (takeMove s)) := by
  simp [step, stepOnce, h, performMove, underReset, hr]

/-- A run of the machine, one step at a time. -/
@[simp] theorem run_zero (s : State) : Host.Core.run Sys2Proof.core 0 s = .next s := rfl

theorem coreRun_succ (M : Host.Core) {s t : M.State} (h : M.step s = .next t) (n : Nat) :
    M.run (n + 1) s = M.run n t := by
  show (match M.step s with
    | .next s' => M.run n s'
    | .fault r => .fault r
    | .refused r => .refused r) = _
  rw [h]

theorem run_succ {s t : State} (h : step s = .next t) (n : Nat) :
    Host.Core.run Sys2Proof.core (n + 1) s = Host.Core.run Sys2Proof.core n t :=
  coreRun_succ Sys2Proof.core h n

/-- Under reset every move is made from the reset values (40_interfaces.md R100). -/
theorem step_under_reset {s : State} (hr : s.rstN = false) :
    step s = performMove (nextMove s) (takeMove (hardReset s)) := by
  simp [step, stepOnce, underReset, hr]

theorem hostAccess_write {s : State} (hr : s.rstN = true) (off : BitVec 6) (w : Word) :
    hostAccess (.write off w) s = writeReg off w s := by
  simp [hostAccess, hr]

/-- What one event step can do, port and trace apart: advance, wait, abort, note a release error or store a
level. -/
theorem eventStep_cases (e : Event) (tag : Tag) (rest : List (Event × Tag)) (s : State) :
    (e.isPinOp = false ∧ eventStep e tag rest s = retire e rest none s) ∨
    (e.isPinOp = true ∧
      ((∃ h, (h = .presented ∨ h = .taken) ∧
          eventStep e tag rest s = { consumeReply s with handshake := h }) ∨
       ∃ a, nextReply s = .answered a ∧
        ((a.err = true ∧ tag = .normal ∧
            eventStep e tag rest s = abort (retire e rest (some a) (consumeReply s))) ∨
         (a.err = true ∧ tag = .release ∧
            eventStep e tag rest s = { retire e rest (some a) (consumeReply s) with relerr := true }) ∨
         (a.err = false ∧ e.isRead = true ∧
            eventStep e tag rest s = storeLevel a.level (retire e rest (some a) (consumeReply s))) ∨
         (a.err = false ∧ e.isRead = false ∧
            eventStep e tag rest s = retire e rest (some a) (consumeReply s))))) := by
  by_cases h : e.isPinOp = true
  · rw [eventStep_pinOp h]; exact .inr ⟨h, pinOpStep_cases e tag rest s⟩
  · cases e <;> first | exact .inl ⟨rfl, rfl⟩ | simp [Event.isPinOp] at h

/-- What the Controller's turn can be: nothing, a check step, a completion step, or an event step. -/
theorem controllerTurn_cases {s t : State} (h : controllerTurn s = .next t) :
    (s.phase = .none ∧ t = s) ∨
    (s.phase = .check ∧
      ((∃ i, decode s.cur = .ok i ∧ t = checkOf i s) ∨
       (∃ e, decode s.cur = .error e ∧ t = raiseError .illegalCommand s))) ∨
    (s.phase = .run ∧ s.seq = [] ∧
      ((∃ i, decode s.cur = .ok i ∧ t = completionStep (onOkOf i) s) ∨
       (∃ e, decode s.cur = .error e ∧ t = completionStep id s))) ∨
    (s.phase = .run ∧ ∃ e tag rest, s.seq = (e, tag) :: rest ∧ t = eventStep e tag rest s) := by
  rw [controllerTurn_eq] at h
  simp only [Host.Outcome.next.injEq] at h
  subst h
  cases hp : s.phase with
  | none =>
    refine .inl ⟨rfl, ?_⟩
    split
    · exact commandStep_none _ _ hp
    · exact commandStep_none _ _ hp
  | check =>
    refine .inr (.inl ⟨rfl, ?_⟩)
    split
    · rename_i i hd; exact .inl ⟨i, hd, commandStep_check _ _ hp⟩
    · rename_i e hd; exact .inr ⟨e, hd, commandStep_check _ _ hp⟩
  | run =>
    cases hq : s.seq with
    | nil =>
      refine .inr (.inr (.inl ⟨rfl, rfl, ?_⟩))
      split
      · rename_i i hd; exact .inl ⟨i, hd, commandStep_done _ _ hp hq⟩
      · rename_i e hd; exact .inr ⟨e, hd, commandStep_done _ _ hp hq⟩
    | cons x rest =>
      obtain ⟨e, tag⟩ := x
      refine .inr (.inr (.inr ⟨rfl, e, tag, rest, rfl, ?_⟩))
      split
      · exact commandStep_event _ _ hp hq
      · exact commandStep_event _ _ hp hq

/-- What the check step of SETUP can do (42_lifecycle.md R141). -/
theorem setupCheck_cases (s : State) :
    ((s.cfgPins.distinct = false ∨ pinsValid s.cfgPins s = false) ∧
      setupCheck s = raiseError .configurationError s) ∨
    (s.cfgPins.distinct = true ∧ pinsValid s.cfgPins s = true ∧
      setupCheck s = startRun (setupPrelude s ++ configure s.cfgPins s.cfgDelay) .idle
        (latchActive (takeSnap s))) := by
  unfold setupCheck
  cases hd : s.cfgPins.distinct <;> cases hv : pinsValid s.cfgPins s <;> simp

/-- What the check step of a read can do (43_transaction.md R160). -/
theorem readCheck_cases (ch : Nat) (s : State) :
    (s.state ≠ .idle ∧ readCheck ch s = raiseError .notInitialized s) ∨
    (s.state = .idle ∧ 2 ≤ ch ∧ readCheck ch s = raiseError .invalidChannel s) ∨
    (s.state = .idle ∧ ch < 2 ∧ readCheck ch s = startRun (transaction ch s.actPins s.actDelay) .idle
      { s with sr := 0, nread := 0, state := .inTransaction }) := by
  unfold readCheck
  by_cases h : s.state = .idle
  · by_cases h2 : 2 ≤ ch
    · exact .inr (.inl ⟨h, h2, by simp [h, h2]⟩)
    · exact .inr (.inr ⟨h, by omega, by rw [if_neg (by simp [h]), if_neg h2]⟩)
  · exact .inl ⟨h, by simp [h]⟩

/-- What a step that answers a next state can be: the Controller's turn, a host access, a change of rst_ni or
an ignored late answer. -/
theorem step_cases {s t : State} (h : step s = .next t) :
    (nextMove s = .controller ∧ controllerTurn (takeMove (underReset s)) = .next t) ∨
    (∃ a, nextMove s = .host a ∧ t = hostAccess a (takeMove (underReset s))) ∨
    (∃ b, nextMove s = .rst b ∧ t = driveReset b (takeMove (underReset s))) ∨
    (∃ a n, nextMove s = .strayAnswer a ∧ (takeMove (underReset s)).orphans = n + 1 ∧
      t = { takeMove (underReset s) with orphans := n }) := by
  unfold step stepOnce at h
  cases hm : nextMove s with
  | controller => rw [hm] at h; exact .inl ⟨rfl, h⟩
  | host a =>
    rw [hm] at h
    simp only [performMove, Host.Outcome.next.injEq] at h
    exact .inr (.inl ⟨a, rfl, h.symm⟩)
  | rst b =>
    rw [hm] at h
    simp only [performMove, Host.Outcome.next.injEq] at h
    exact .inr (.inr (.inl ⟨b, rfl, h.symm⟩))
  | strayAnswer a =>
    rw [hm] at h
    simp only [performMove, strayAnswer] at h
    split at h
    · rename_i n hn
      simp only [Host.Outcome.next.injEq] at h
      exact .inr (.inr (.inr ⟨a, n, rfl, hn, h.symm⟩))
    · cases h

end Sys2Proof.Machine
end

