-- ==== Sys2Proof/Laws/Layout.lean ====
section
/-! SUPPORT. Fields of the words of the register window, bit by bit, and the fields of a command word. -/

namespace Sys2Proof

/-- A command word bit by bit (30_encoding.md R80). -/
theorem getLsbD_commandWord (ch : Byte) (op : BitVec 4) (i : Nat) :
    (commandWord ch op).getLsbD i =
      if i < 4 then op.getLsbD i else if i < 8 then false
      else if i < 16 then ch.getLsbD (i - 8) else false := by
  show BitVec.getLsbD (w := 16 + 8 + 4 + 4) (0#16 ++ ch ++ 0#4 ++ op) i = _
  simp only [BitVec.getLsbD_append, BitVec.getLsbD_zero]
  by_cases h1 : i < 4
  · simp [h1]
  · by_cases h2 : i < 8
    · have : i - 4 < 4 := by omega
      simp [h1, h2, this]
    · have h3 : ¬ i - 4 < 4 := by omega
      by_cases h4 : i < 16
      · have h5 : i - 4 - 4 < 8 := by omega
        have h6 : i - 4 - 4 = i - 8 := by omega
        simp [h1, h2, h3, h4, h6, show i - 8 < 8 by omega]
      · have h5 : ¬ i - 4 - 4 < 8 := by omega
        simp [h1, h2, h3, h4, h5]

/-- A command word holds its OP field (30_encoding.md R80). -/
@[simp] theorem opField_commandWord (ch : Byte) (op : BitVec 4) : opField (commandWord ch op) = op := by
  ext i hi
  rw [← BitVec.getLsbD_eq_getElem, ← BitVec.getLsbD_eq_getElem]
  simp [opField, getLsbD_commandWord, hi]

/-- A command word holds its CH field (30_encoding.md R80). -/
@[simp] theorem chField_commandWord (ch : Byte) (op : BitVec 4) : chField (commandWord ch op) = ch := by
  ext i hi
  have h1 : ¬ 8 + i < 4 := by omega
  have h2 : 8 + i < 16 := by omega
  rw [← BitVec.getLsbD_eq_getElem, ← BitVec.getLsbD_eq_getElem]
  simp [chField, getLsbD_commandWord, h1, h2, hi]

namespace Machine

/-- The bits of the mask of an accepted command word (41_command_engine.md R120). -/
theorem getLsbD_acceptedMask (i : Nat) :
    (0x0000FF0F#32).getLsbD i = decide (i < 4 ∨ (8 ≤ i ∧ i < 16)) := by
  by_cases h : i < 32
  · interval_cases i <;> rfl
  · rw [BitVec.getLsbD_of_ge _ _ (by omega)]
    symm; simp; omega

/-- Acceptance keeps the OP field (30_encoding.md R83). -/
@[simp] theorem opField_acceptedWord (w : Word) : opField (acceptedWord w) = opField w := by
  ext i hi
  simp [opField, acceptedWord, BitVec.getElem_extractLsb', getLsbD_acceptedMask, hi]

/-- Acceptance keeps the CH field (30_encoding.md R83). -/
@[simp] theorem chField_acceptedWord (w : Word) : chField (acceptedWord w) = chField w := by
  ext i hi
  have h1 : ¬ 8 + i < 4 := by omega
  have h2 : 8 + i < 16 := by omega
  simp [chField, acceptedWord, BitVec.getElem_extractLsb', getLsbD_acceptedMask, h1, h2]

/-- Acceptance is idempotent: the reserved bits are 0 once (10_state.md R22). -/
@[simp] theorem acceptedWord_idem (w : Word) : acceptedWord (acceptedWord w) = acceptedWord w := by
  simp [acceptedWord, BitVec.and_assoc]

/-- What CMD reads as is the accepted word (10_state.md R22, 41_command_engine.md R120). -/
theorem commandWord_fields (w : Word) : commandWord (chField w) (opField w) = acceptedWord w := by
  ext i hi
  rw [← BitVec.getLsbD_eq_getElem, ← BitVec.getLsbD_eq_getElem]
  simp only [getLsbD_commandWord, acceptedWord, BitVec.getLsbD_and, getLsbD_acceptedMask, opField, chField,
    BitVec.getLsbD_extractLsb']
  by_cases h1 : i < 4
  · simp [h1]
  · by_cases h2 : i < 8
    · simp [h1, h2]
    · by_cases h3 : i < 16
      · have h4 : i - 8 < 8 := by omega
        have h5 : 8 + (i - 8) = i := by omega
        have h6 : 8 ≤ i := by omega
        simp [h1, h2, h3, h4, h5, h6]
      · simp [h1, h2, h3]

/-- A CFG_PINS or ACT_PINS word bit by bit (10_state.md R36). -/
theorem getLsbD_pinsWord (p : Pins) (i : Nat) :
    p.toWord.getLsbD i =
      if i < 8 then p.cs.getLsbD i else if i < 16 then p.clk.getLsbD (i - 8)
      else if i < 24 then p.dio.getLsbD (i - 16)
      else if i = 24 then Scheme.bit p.scheme else false := by
  show BitVec.getLsbD (w := 7 + 1 + 8 + 8 + 8)
    (0#7 ++ BitVec.ofBool (Scheme.bit p.scheme) ++ p.dio ++ p.clk ++ p.cs) i = _
  simp only [BitVec.getLsbD_append, BitVec.getLsbD_zero, BitVec.getLsbD_ofBool]
  by_cases h1 : i < 8
  · simp [h1]
  · by_cases h2 : i < 16
    · simp [h1, h2, show i - 8 < 8 by omega]
    · by_cases h3 : i < 24
      · simp [h1, h2, h3, show ¬ i - 8 < 8 by omega, show i - 8 - 8 = i - 16 by omega,
          show i - 16 < 8 by omega]
      · by_cases h4 : i = 24
        · subst h4; simp
        · simp [h1, h2, h3, h4, show ¬ i - 8 < 8 by omega, show ¬ i - 8 - 8 < 8 by omega,
            show ¬ i - 8 - 8 - 8 < 1 by omega]

/-- An assignment read from a CFG_PINS word and written back is the assignment (10_state.md R36). -/
theorem pins_ofWord_toWord (p : Pins) : Pins.ofWord p.toWord = p := by
  obtain ⟨cs, clk, dio, scheme⟩ := p
  have hcs : (Pins.toWord ⟨cs, clk, dio, scheme⟩).extractLsb' 0 8 = cs := by
    apply BitVec.eq_of_getLsbD_eq; intro i hi
    simp [getLsbD_pinsWord, hi]
  have hclk : (Pins.toWord ⟨cs, clk, dio, scheme⟩).extractLsb' 8 8 = clk := by
    apply BitVec.eq_of_getLsbD_eq; intro i hi
    simp [getLsbD_pinsWord, hi, show 8 + i < 16 by omega]
  have hdio : (Pins.toWord ⟨cs, clk, dio, scheme⟩).extractLsb' 16 8 = dio := by
    apply BitVec.eq_of_getLsbD_eq; intro i hi
    simp [getLsbD_pinsWord, hi, show ¬ 16 + i < 8 by omega,
      show ¬ 16 + i < 16 by omega, show 16 + i < 24 by omega]
  simp only [Pins.ofWord, hcs, hclk, hdio, getLsbD_pinsWord]
  cases scheme <;> rfl

/-- Options read from a CFG_OPT word and written back are the options (10_state.md R38). -/
theorem options_ofWord_toWord (o : Options) : Options.ofWord o.toWord = o := by
  obtain ⟨l, z⟩ := o
  cases l <;> cases z <;> decide

end Machine

end Sys2Proof
end

