-- ==== Sys2Proof/Laws/PerInstr.lean ====
section
/-! SUPPORT. Statements made per instruction. The family EncodedForm says of a command, as syntax, that its
word carries its OP in bits 3:0, its channel in bits 15:8, and no reserved bit (30_encoding.md R80, R81). -/

namespace Sys2Proof.Laws.EncodedForm

open Sys2Proof

/-- The OP of a command (30_encoding.md R81). -/
def opOf : Instr → BitVec 4
  | .setup => 0x1
  | .read _ => 0x2
  | .readBoth _ => 0x3
  | .teardown => 0x4

/-- The channel operand, 0 for a command that has none. -/
def chOf : Instr → Nat
  | .setup => 0
  | .read ch => ch
  | .readBoth ch => ch
  | .teardown => 0

def Statement (i : Instr) : Prop :=
  opField (encode i) = opOf i ∧ (i.WellFormed → chOperand (encode i) = chOf i) ∧
    Machine.acceptedWord (encode i) = encode i

theorem acceptedWord_commandWord (ch : Byte) (op : BitVec 4) :
    Machine.acceptedWord (commandWord ch op) = commandWord ch op := by
  rw [← Machine.commandWord_fields, chField_commandWord, opField_commandWord]

theorem setup : Statement .setup := by
  refine ⟨?_, fun _ => ?_, acceptedWord_commandWord _ _⟩
  · exact opField_commandWord _ _
  · simp [chOperand, encode, chOf]

theorem read (ch : Nat) : Statement (.read ch) := by
  refine ⟨opField_commandWord _ _, fun h => ?_, acceptedWord_commandWord _ _⟩
  have : ch < 256 := by simpa [Instr.WellFormed, Instr.wellFormed] using h
  simp [chOperand, encode, chOf, Nat.mod_eq_of_lt this]

theorem readBoth (ch : Nat) : Statement (.readBoth ch) := by
  refine ⟨opField_commandWord _ _, fun h => ?_, acceptedWord_commandWord _ _⟩
  have : ch < 256 := by simpa [Instr.WellFormed, Instr.wellFormed] using h
  simp [chOperand, encode, chOf, Nat.mod_eq_of_lt this]

theorem teardown : Statement .teardown := by
  refine ⟨?_, fun _ => ?_, acceptedWord_commandWord _ _⟩
  · exact opField_commandWord _ _
  · simp [chOperand, encode, chOf]

end Sys2Proof.Laws.EncodedForm
end

