-- ==== Sys2Proof/Tests/Slice0.lean ====
section
/-! SUPPORT. Tests of the model against the spec's own words and vectors (30_encoding.md R92,
95_test_vectors.md), one step each, the smoke test of WellFormed, and for every obligation with hypotheses a
state that meets them. -/

namespace Sys2Proof.Tests

open Sys2Proof Sys2Proof.Machine

/-! ## Form and decoding -/

/-- The one check of WellFormed refuses a channel that CMD[15:8] cannot hold, in each form that has one. -/
theorem test_illFormed_read : Instr.wellFormed (.read 256) = false := by decide
theorem test_illFormed_readBoth : Instr.wellFormed (.readBoth 256) = false := by decide
theorem test_wellFormed_read_max : Instr.WellFormed (.read 255) := by decide

/-- Words written out from 30_encoding.md R80: reserved 31:16, CH 15:8, reserved 7:4, OP 3:0. -/
theorem test_decode_setup : decode 0b00000000000000000000000000000001#32 = .ok .setup := by decide
theorem test_decode_read : decode 0b00000000000000000000000100000010#32 = .ok (.read 1) := by decide
theorem test_decode_readBoth : decode 0b00000000000000001111111100000011#32 = .ok (.readBoth 255) := by
  decide
theorem test_decode_teardown : decode 0b00000000000000000000000000000100#32 = .ok .teardown := by decide

/-- R12 of 95_test_vectors.md: reserved bits set, OP 2, CH 0x56. -/
theorem test_decode_reservedBits : decode 0x12345672#32 = .ok (.read 0x56) := by decide
/-- C2 of 95_test_vectors.md: OP 0 is unassigned whatever bit 7 says. -/
theorem test_decode_unassigned : decode 0x00000080#32 = .error (.unassignedOp 0) := by decide
theorem test_decode_unassigned_top : decode 0x0000000F#32 = .error (.unassignedOp 15) := by decide
/-- Little-endian lanes: `READ 1` is bytes 02 01 00 00 (20_memory.md R64). -/
theorem test_decodeBytes_read :
    decodeBytes [0x02, 0x01, 0x00, 0x00, 0xAA] = .ok (.read 1, [0xAA]) := by decide
theorem test_decodeBytes_truncated : decodeBytes [0x02, 0x01, 0x00] = .error .truncated := by decide
theorem test_decodeTableWord : decodeTableWord 32 0x00000003 = some (.readBoth 0) := by decide
theorem test_pinsWord : Pins.toWord ⟨17, 18, 27, .bcm⟩ = 0x001B1211#32 := by decide
theorem test_pinsWord_reserved : (Pins.ofWord 0xFFFFFFFF#32).toWord = 0x01FFFFFF#32 := by decide

/-! ## States -/

/-- The pins of 95_test_vectors.md. -/
def vectorPins : Pins := ⟨17, 18, 27, .bcm⟩

/-- A command accepted after reset with the vector's pins staged; its check step is due. -/
def checking (w : Word) (l : Lifecycle) : State :=
  { accept w State.reset with state := l, cfgPins := vectorPins, actPins := vectorPins }

/-- A command in RUN with these events left and these replies to come. -/
def running (w : Word) (l : Lifecycle) (q : List (Event × Tag)) (r : List PinReply) : State :=
  { checking w l with phase := .run, seq := q, replies := r, nextState := .idle }

/-- The state an outcome answers. -/
def after (o : Host.Outcome State Fault Refusal) : State :=
  match o with
  | .next t => t
  | _ => State.reset

/-- The host's next move is this access. -/
def hosting (a : HostAccess) (s : State) : State := { s with agenda := [.host a] }

/-- An answer without error at a level. -/
def answer (level : Bool) : PinReply := .answered ⟨level, false⟩

/-! ## Instructions, one step each -/

/-- S1: the first event of SETUP is CfgOut((0,17),1), and ACT_PINS is the staged assignment. -/
theorem test_setup_check :
    ((after (exec .setup (checking 1 .uninitialized))).seq.map Prod.fst).take 2 =
      [.cfgOut ⟨.bcm, 17⟩ true, .delay 2000] ∧
    readReg 0x18 (after (exec .setup (checking 1 .uninitialized))) = 0x001B1211#32 := by decide
/-- S9: duplicate pins in IDLE: STATUS 0x00000011. -/
theorem test_setup_duplicate :
    readReg 0x04 (after (exec .setup { checking 1 .idle with cfgPins := ⟨17, 18, 17, .bcm⟩ })) =
      0x00000011#32 := by decide
/-- R10: `READ 2` in IDLE: STATUS 0x00000021. -/
theorem test_read_invalidChannel :
    readReg 0x04 (after (exec (.read 2) (checking 0x202 .idle))) = 0x00000021#32 := by decide
/-- R4: levels 0xB2 then 0xB3: RESULT 0x04B3B2B2, STATUS 0x00000101. -/
theorem test_read_mismatch :
    readReg 0x08 (after (exec (.read 1) { running 0x102 .inTransaction [] [] with sr := 0xCD4D })) =
      0x04B3B2B2#32 ∧
    readReg 0x04 (after (exec (.read 1) { running 0x102 .inTransaction [] [] with sr := 0xCD4D })) =
      0x00000101#32 := by decide
/-- R6: the same levels under the ZERO policy: RESULT 0x06B3B200. -/
theorem test_readBoth_mismatchZero :
    readReg 0x08 (after (exec (.readBoth 1) { running 0x103 .inTransaction [] [] with
      sr := 0xCD4D, actOpt := ⟨false, true⟩ })) = 0x06B3B200#32 := by decide
/-- R8 with READ_BOTH: the same levels twice, second LSB-first, is 0x4D. -/
theorem test_readBoth_lsb :
    readReg 0x08 (after (exec (.readBoth 0) { running 0x003 .inTransaction [] [] with
      sr := 0x4D4D, actOpt := ⟨true, false⟩ })) = 0x064DB2B2#32 := by decide
/-- T1: twelve events from IDLE. -/
theorem test_teardown_idle : (after (exec .teardown (checking 4 .idle))).seq.length = 12 := by decide
/-- T3: none from UNINITIALIZED. -/
theorem test_teardown_uninitialized :
    (after (exec .teardown (checking 4 .uninitialized))).seq = [] := by decide

/-! ## Engine, registers, reset -/

/-- R15: an error at a Read aborts: twelve events are left, and the first drives chip-select high. -/
theorem test_abort :
    (after (exec (.read 0) (running 2 .inTransaction [(.read ⟨.bcm, 27⟩, .normal)]
      [.answered ⟨true, true⟩]))).seq.head? = some (.cfgOut ⟨.bcm, 17⟩ true, .release) := by decide
/-- The third level read is SR[2]. -/
theorem test_storeLevel :
    (after (exec (.read 0) { running 2 .inTransaction [(.read ⟨.bcm, 27⟩, .normal)] [answer true] with
      nread := 2 })).sr = 0x0004#16 := by decide
/-- C6: a write of CMD while BUSY: STATUS 0x00000406. -/
theorem test_overrun :
    readReg 0x04 (after (step (hosting (.write 0 4) (running 2 .inTransaction [] [])))) =
      0x00000406#32 := by decide
/-- A10: STATUS 0x00000753 with CLRFLAGS is 0x00000053. -/
theorem test_clearFlags :
    readReg 0x04 (after (step (hosting clrFlags { State.reset with
      state := .released, err := .busError, glitch := true, relerr := true, ovr := true }))) =
      0x00000053#32 := by decide
/-- A4: a misaligned read returns 0. -/
theorem test_misalignedRead : (after (step (hosting (.read 0x11) State.reset))).rdata = 0 := by decide
/-- A2: `RD CFG_DELAY` after reset. -/
theorem test_readDelay : (after (step (hosting (.read 0x10) State.reset))).rdata = 0x000007D0#32 := by
  decide
/-- X3: a write of CMD during reset is ignored. -/
theorem test_writeUnderReset :
    (after (step (hosting (.write 0 1) { State.reset with rstN := false }))).busy = false := by decide
/-- C1: OP 0 from reset: STATUS 0x00000040. -/
theorem test_illegal : readReg 0x04 (after (step (State.reset.withFetchWord 32 0))) = 0x00000040#32 := by
  decide
/-- The signal codes of a RELEASE request (30_encoding.md R88). -/
theorem test_request : Event.request (.release ⟨.board, 5⟩) = some ⟨0b100, true, 5, false⟩ := by decide

/-! ## Witnesses: for each obligation with hypotheses, values that meet them -/

theorem witness_roundTrip : Instr.WellFormed (.read 0) ∧ Instr.WellFormed (.readBoth 255) := by decide
theorem witness_decode : decode 0xFFFF00F1#32 = .ok .setup ∧ isReadWord 0xFFFF00F1#32 = false ∧
    decode 0x0000FFF2#32 = .ok (.read 255) ∧ isReadWord 0x0000FFF2#32 = true := by decide
theorem witness_opcodeMap : (0xFFFFFFF0#32).toNat % 16 = 0 ∧ (1#32).toNat % 16 = 1 ∧
    (2#32).toNat % 16 = 2 ∧ (3#32).toNat % 16 = 3 ∧ (4#32).toNat % 16 = 4 ∧ 5 ≤ (5#32).toNat % 16 ∧
    5 ≤ (15#32).toNat % 16 := by decide
theorem witness_placedWord : decodeTableWord 8 4 = some .teardown := by decide

theorem witness_controllerMoves (w : Word) (l : Lifecycle) : ControllerMoves (checking w l) := ⟨rfl, rfl⟩
theorem witness_stepRuns : ControllerMoves (checking 1 .idle) ∧
    decode (checking 1 .idle).cur = .ok .setup := ⟨⟨rfl, rfl⟩, by decide⟩
theorem witness_illegal : ControllerMoves (checking 0 .idle) ∧ (checking 0 .idle).phase = .check ∧
    opField (checking 0 .idle).cur ∉ ([0x1, 0x2, 0x3, 0x4] : List (BitVec 4)) :=
  ⟨⟨rfl, rfl⟩, by decide⟩
theorem witness_illegal_boundary :
    opField (checking 5 .idle).cur ∉ ([0x1, 0x2, 0x3, 0x4] : List (BitVec 4)) := by decide
theorem witness_illegal_write :
    (hosting (.write 0 0x102F) State.reset).agenda = [.host (.write 0x00 0x102F)] ∧
    (0x102F#32).toNat % 16 ∉ ([1, 2, 3, 4] : List Nat) := by decide
theorem witness_idle : ControllerMoves State.reset ∧ State.reset.phase = .none := ⟨⟨rfl, rfl⟩, rfl⟩
theorem witness_stepSafe : ∀ a, nextMove State.reset ≠ .strayAnswer a := by intro a h; cases h
theorem witness_stepSafe_stray :
    ({ State.reset with orphans := 1, agenda := [.strayAnswer ⟨false, false⟩] } : State).rstN = true ∧
    0 < ({ State.reset with orphans := 1, agenda := [.strayAnswer ⟨false, false⟩] } : State).orphans := by
  decide

theorem witness_accept : (hosting (.write 0 0x102) State.reset).rstN = true ∧
    nextMove (hosting (.write 0 0x102) State.reset) = .host (.write 0x00 0x102) ∧
    (hosting (.write 0 0x102) State.reset).busy = false := by decide
theorem witness_accept_other : ∀ w, HostAccess.read 0x00 ≠ .write 0x00 w := by intro w h; cases h
theorem witness_drop : (hosting (.write 0 4) (checking 2 .idle)).rstN = true ∧
    nextMove (hosting (.write 0 4) (checking 2 .idle)) = .host (.write 0x00 4) ∧
    (hosting (.write 0 4) (checking 2 .idle)).busy = true := by decide

theorem witness_setup (l : Lifecycle) : (checking 1 l).phase = .check ∧ (checking 1 l).state = l ∧
    (checking 1 l).cfgPins.cs ≠ (checking 1 l).cfgPins.clk ∧
    (checking 1 l).cfgPins.cs ≠ (checking 1 l).cfgPins.dio ∧
    (checking 1 l).cfgPins.clk ≠ (checking 1 l).cfgPins.dio ∧
    (∀ p ∈ (checking 1 l).invalidPins, p ≠ (checking 1 l).cfgPins.csPin ∧
      p ≠ (checking 1 l).cfgPins.clkPin ∧ p ≠ (checking 1 l).cfgPins.dioPin) := by
  cases l <;> decide
theorem witness_setup_bad :
    ({ checking 1 .idle with cfgPins := ⟨17, 17, 27, .bcm⟩ } : State).cfgPins.cs =
      ({ checking 1 .idle with cfgPins := ⟨17, 17, 27, .bcm⟩ } : State).cfgPins.clk ∧
    ({ checking 1 .idle with invalidPins := [⟨.bcm, 27⟩] } : State).cfgPins.dioPin ∈
      ({ checking 1 .idle with invalidPins := [⟨.bcm, 27⟩] } : State).invalidPins := by decide

theorem witness_readsStart : (checking 0x102 .idle).phase = .check ∧ (checking 0x102 .idle).state = .idle ∧
    (0 < 2 ∧ 1 < 2) := by decide
theorem witness_readsRejected : (checking 2 .released).state ≠ .idle ∧ (checking 0x202 .idle).state = .idle ∧
    2 ≤ 2 ∧ decode (checking 0x202 .idle).cmd = .ok (.read 2) := by decide
theorem witness_setupErr :
    let s := { checking 1 .idle with cfgPins := ⟨1, 1, 2, .bcm⟩ }
    exec .setup s = .next (after (exec .setup s)) ∧ (after (exec .setup s)).err ≠ s.err := by
  refine ⟨rfl, by decide⟩
theorem witness_completion (w : Word) : (running w .inTransaction [] []).phase = .run ∧
    (running w .inTransaction [] []).seq = [] ∧ (running w .inTransaction [] []).aborted = false := by
  refine ⟨rfl, rfl, rfl⟩
theorem witness_kind : ∃ t u, exec (.read 0) (running 2 .inTransaction [] []) = .next t ∧
    exec (.readBoth 0) (running 2 .inTransaction [] []) = .next u := ⟨_, _, rfl, rfl⟩
theorem witness_distinct : vectorPins.distinct = true ∧ 1 < 2 := by decide
theorem witness_teardown : (checking 4 .idle).state = .idle ∧ (checking 4 .uninitialized).state =
    .uninitialized ∧ (checking 4 .released).state = .released := by decide

/-- A RUN state whose first event is `e` under `tag`, with this reply to come. -/
def atEvent (e : Event) (tag : Tag) (r : PinReply) : State := running 2 .inTransaction [(e, tag)] [r]

theorem witness_delay : (atEvent (.delay 0) .normal (answer false)).seq = (.delay 0, .normal) :: [] := rfl
theorem witness_pinOp : (Event.write ⟨.bcm, 17⟩ true).isPinOp = true ∧
    (Event.write ⟨.bcm, 17⟩ true).isRead = false ∧
    nextReply (atEvent (.write ⟨.bcm, 17⟩ true) .normal (answer true)) = .answered ⟨true, false⟩ := by
  decide
theorem witness_readLevel : ({ atEvent (.read ⟨.bcm, 27⟩) .normal (answer true) with nread := 15 } :
    State).nread < 16 ∧ nextReply (atEvent (.read ⟨.bcm, 27⟩) .normal (answer true)) =
      .answered ⟨true, false⟩ := by decide
theorem witness_error : (Event.release ⟨.bcm, 17⟩).isPinOp = true ∧
    nextReply (atEvent (.release ⟨.bcm, 17⟩) .release (.answered ⟨false, true⟩)) =
      .answered ⟨false, true⟩ := by decide
theorem witness_waits : nextReply (atEvent (.read ⟨.bcm, 27⟩) .normal .notReady) = .notReady ∧
    (atEvent (.read ⟨.bcm, 27⟩) .normal .notReady).handshake ≠ .taken ∧
    ({ atEvent (.read ⟨.bcm, 27⟩) .normal .notReady with handshake := .taken } : State).handshake = .taken ∧
    nextReply (atEvent (.read ⟨.bcm, 27⟩) .normal .pending) = .pending := by decide
theorem witness_presented : ControllerMoves (atEvent (.read ⟨.bcm, 27⟩) .normal .notReady) ∧
    decode (atEvent (.read ⟨.bcm, 27⟩) .normal .notReady).cur = .ok (.read 0) :=
  ⟨⟨rfl, rfl⟩, by decide⟩
theorem witness_aborted : ({ running 2 .inTransaction [] [] with aborted := true } : State).aborted = true ∧
    ({ running 2 .inTransaction [] [] with aborted := true } : State).seq = [] := by decide

theorem witness_hostRead : (hosting (.read 0x3F) State.reset).rstN = true ∧
    nextMove (hosting (.read 0x3F) State.reset) = .host (.read 0x3F) := by decide
theorem witness_unmapped : (0x24#6 : BitVec 6) ∉ mappedOffsets ∧ (0x3C#6 : BitVec 6) ∉ mappedOffsets ∧
    (0x21#6 : BitVec 6) ∉ mappedOffsets ∧ (0x20#6 : BitVec 6) ∈ mappedOffsets := by decide
theorem witness_readOnly (w : Word) : (hosting (.write 0x18 w) State.reset).rstN = true ∧
    nextMove (hosting (.write 0x18 w) State.reset) = .host (.write 0x18 w) := ⟨rfl, rfl⟩
theorem witness_statusWrite (w : Word) :
    nextMove (hosting (.write 0x04 w) State.reset) = .host (.write 0x04 w) := rfl
theorem witness_configWrite (off : BitVec 6) (w : Word) :
    nextMove (hosting (.write off w) State.reset) = .host (.write off w) := rfl
theorem witness_running : (checking 2 .idle).busy = true := rfl

theorem witness_reset : ({ running 2 .inTransaction [] [] with agenda := [.rst false] } : State).rstN = true ∧
    nextMove { running 2 .inTransaction [] [] with agenda := [.rst false] } = .rst false := by decide
theorem witness_heldInReset (m : Move) :
    ({ State.reset with rstN := false, agenda := [m] } : State).rstN = false ∧
    nextMove { State.reset with rstN := false, agenda := [m] } = m := ⟨rfl, rfl⟩
theorem witness_lateAnswer_underReset (n : Nat) (a : PinAnswer) :
    let s := { State.reset with rstN := false, orphans := n, agenda := [.strayAnswer a] }
    s.rstN = false ∧ nextMove s = .strayAnswer a ∧ (hardReset s).orphans = n := ⟨rfl, rfl, rfl⟩
theorem witness_lateAnswer (n : Nat) (a : PinAnswer) :
    ({ State.reset with orphans := n, agenda := [.strayAnswer a] } : State).orphans = n ∧
    nextMove { State.reset with orphans := n, agenda := [.strayAnswer a] } = .strayAnswer a := ⟨rfl, rfl⟩

/-- A state in a transaction that meets the invariant: one Read is left. -/
def lateInTransaction : State :=
  { running 2 .inTransaction [(.read ⟨.bcm, 27⟩, .normal)] [answer true] with nread := 15 }

theorem witness_inv : Inv lateInTransaction where
  busy_iff := by decide
  cur_eq := by decide
  cmd_clean := by decide
  seq_run := by decide
  run_assigned := fun _ => ⟨.read 0, by decide⟩
  waiting := fun h => absurd rfl h
  transaction_iff := by decide
  next_state := by decide
  aborted_run := by decide
  release_reads := by decide
  teardown_run := by decide
  nread_le := by decide
  nread_reads := by decide
  pins_distinct := by decide
  seq_paced := by decide
  result_valid := by decide
  under_reset := by decide
theorem witness_inv_step : ∃ t, step lateInTransaction = .next t := ⟨_, rfl⟩
/-- A completion of READ that changes RESULT, ERR, STATE and GLITCH, and drops BUSY. -/
theorem witness_completionChanges :
    let s := { running 2 .inTransaction [] [] with sr := 0xCD4D, err := .busError }
    let t := after (step s)
    t.result ≠ s.result ∧ t.err ≠ s.err ∧ t.state ≠ s.state ∧ s.busy = true ∧ t.busy = false ∧
      s.glitch = false ∧ t.glitch = true := by decide
theorem witness_setupChanges :
    let s := { checking 1 .idle with actPins := ⟨1, 2, 3, .board⟩ }
    (after (step s)).actPins ≠ s.actPins := by decide
/-- The invariant state that one step takes to RELEASED: a TEARDOWN at its completion. -/
def finishingTeardown : State :=
  { checking 4 .idle with phase := .run, nextState := .released, err := .busError }
theorem witness_lifecycle : (after (step finishingTeardown)).state ≠ finishingTeardown.state ∧
    (after (step finishingTeardown)).err ≠ finishingTeardown.err := by decide
theorem witness_inv_lifecycle : Inv finishingTeardown where
  busy_iff := by decide
  cur_eq := by decide
  cmd_clean := by decide
  seq_run := by decide
  run_assigned := fun _ => ⟨.teardown, by decide⟩
  waiting := fun h => absurd rfl h
  transaction_iff := by decide
  next_state := by decide
  aborted_run := by decide
  release_reads := by decide
  teardown_run := by decide
  nread_le := by decide
  nread_reads := by decide
  pins_distinct := by decide
  seq_paced := by decide
  result_valid := by decide
  under_reset := by decide
/-- Sticky flags: a clear by the host, a set by an error in a release, and an overrun. -/
theorem witness_sticky :
    (after (step (hosting (.write 4 0x700) { State.reset with
      glitch := true, relerr := true, ovr := true }))).glitch = false ∧
    (after (step (running 4 .idle [(.release ⟨.bcm, 17⟩, .release)]
      [.answered ⟨false, true⟩]))).relerr = true ∧
    (after (step (hosting (.write 0 4) (checking 2 .idle)))).ovr = true := by decide
theorem witness_trace : (after (step lateInTransaction)).trace ≠ lateInTransaction.trace ∧
    eventTrace (after (step lateInTransaction)) ≠ eventTrace lateInTransaction := by decide

/-- A state that meets the invariant with its READ taken by the Pin Controller and not answered. -/
def awaitingAnswer : State := { lateInTransaction with handshake := .taken }

theorem witness_inv_awaiting : Inv awaitingAnswer :=
  { witness_inv with
    waiting := fun _ => ⟨rfl, .read ⟨.bcm, 27⟩, .normal, [], rfl, rfl⟩
    under_reset := by decide }
theorem witness_trace_answered :
    eventTrace (after (step awaitingAnswer)) ≠ eventTrace awaitingAnswer := by decide
/-- R110: an operation the Pin Controller took stays in the trace when a reset cuts it off, without an
answer. -/
theorem test_trace_cutOff :
    (after (step { awaitingAnswer with agenda := [.rst false] })).trace =
      [⟨.read ⟨.bcm, 27⟩, none⟩] := by decide
/-- R110: the operation is in the event trace from the step in which it is taken. -/
theorem test_trace_taken :
    eventTrace (after (step { lateInTransaction with replies := [.pending] })) =
      [⟨.read ⟨.bcm, 27⟩, none⟩] := by decide
/-- A turn that takes an event off `seq`, and one after which the first event is taken. -/
theorem witness_trace_issued : ControllerMoves lateInTransaction ∧ lateInTransaction.phase = .run ∧
    lateInTransaction.seq = (.read ⟨.bcm, 27⟩, .normal) :: [] ∧
    (after (step lateInTransaction)).seq ≠ lateInTransaction.seq ∧
    (after (step { lateInTransaction with replies := [.pending] })).handshake = .taken :=
  ⟨⟨rfl, rfl⟩, rfl, rfl, by decide, by decide⟩
theorem witness_request : Inv { lateInTransaction with handshake := .presented } ∧
    pinRequest { lateInTransaction with handshake := .presented } = some ⟨0b011, false, 27, false⟩ :=
  ⟨{ witness_inv with
    waiting := fun _ => ⟨rfl, .read ⟨.bcm, 27⟩, .normal, [], rfl, rfl⟩
    under_reset := by decide }, by decide⟩
/-- Progress: a turn that waits, one that does not, a host access and a late answer. -/
theorem witness_progress_waits : AwaitsAnswer { lateInTransaction with replies := [.pending] } :=
  ⟨rfl, ⟨.read ⟨.bcm, 27⟩, .normal, [], rfl, rfl⟩, rfl⟩
theorem witness_progress : ¬AwaitsAnswer lateInTransaction ∧ lateInTransaction.phase ≠ .none ∧
    turnsLeft lateInTransaction = 14 ∧ turnsLeft (after (step lateInTransaction)) = 1 :=
  ⟨fun h => absurd h.2.2 (by decide), by decide, by decide, by decide⟩
theorem witness_progress_host : (hosting (.write 0 4) lateInTransaction).busy = true ∧
    nextMove (hosting (.write 0 4) lateInTransaction) = .host (.write 0 4) := by decide

/-! Ownership in the middle of a command (10_state.md R41): the events of 42_lifecycle.md R142, R143, R151. -/

theorem witness_owned : decode (checking 1 .idle).cur = .ok .setup ∧
    decode (checking 4 .released).cur = .ok .teardown := by decide
/-- In a SETUP from IDLE onto other pins, the old pins are owned after its check step. -/
theorem test_owned_setup_check :
    ownedPins (after (exec .setup { checking 1 .idle with actPins := ⟨1, 2, 3, .board⟩ })) =
      [⟨.board, 1⟩, ⟨.board, 2⟩, ⟨.board, 3⟩] := by decide
/-- In it, with the old chip-select released: the other two old pins. With all released and the new
chip-select configured: that one. -/
theorem test_owned_setup :
    ownedPins (running 1 .idle
        ((safeRelease ⟨1, 2, 3, .board⟩ 5).drop 7 ++ configure vectorPins 5) []) =
      [⟨.board, 2⟩, ⟨.board, 3⟩] ∧
    ownedPins (running 1 .idle ((configure vectorPins 5).drop 1) []) = [⟨.bcm, 17⟩] := by decide
/-- A first SETUP owns its chip-select once configured; a TEARDOWN no longer owns a pin it has released. -/
theorem test_owned_transition :
    ownedPins (running 1 .uninitialized ((configure vectorPins 5).drop 1) []) = [⟨.bcm, 17⟩] ∧
    ownedPins (running 4 .idle ((safeRelease vectorPins 5).drop 8) []) = [⟨.bcm, 18⟩, ⟨.bcm, 27⟩] := by
  decide

/-- Replies to a whole command: so many answers without error. -/
def okAnswers (n : Nat) : List PinAnswer := List.replicate n ⟨false, false⟩

/-- An accepted READ with waits before each answer and a host read to come. -/
theorem witness_everyCommand :
    let s := { checking 2 .idle with
      agenda := [.controller, .host (.read 4)]
      replies := (List.replicate 70 [PinReply.notReady, .pending, answer true]).flatten }
    s.rstN = true ∧ s.busy = true ∧ s.phase = .check ∧
      (∀ m ∈ s.agenda, m = .controller ∨ ∃ a, m = .host a) ∧
      70 ≤ (s.replies.filter isAnswer).length := by
  refine ⟨rfl, rfl, rfl, ?_, by decide⟩
  intro m hm
  simp only [List.mem_cons, List.not_mem_nil, or_false] at hm
  rcases hm with rfl | rfl
  · exact .inl rfl
  · exact .inr ⟨_, rfl⟩
theorem witness_readRun :
    let s := { checking 0x102 .idle with replies := (okAnswers 64).map PinReply.answered ++ [] }
    s.rstN = true ∧ s.agenda = [] ∧ s.phase = .check ∧ decode s.cur = .ok (.read 1) ∧ s.state = .idle ∧
      s.replies = (okAnswers 64).map PinReply.answered ++ [] ∧ (okAnswers 64).length = 64 ∧
      (∀ a ∈ okAnswers 64, a.err = false) := by
  refine ⟨rfl, rfl, rfl, by decide, rfl, rfl, by decide, by decide⟩
theorem witness_readBothRun : decode (checking 0x003 .idle).cur = .ok (.readBoth 0) := by decide
theorem witness_setupRun :
    let s := { checking 1 .released with replies := (okAnswers 3).map PinReply.answered ++ [] }
    s.rstN = true ∧ s.agenda = [] ∧ s.phase = .check ∧ decode s.cur = .ok .setup ∧ s.state = .released ∧
      s.cfgPins.distinct = true ∧ pinsValid s.cfgPins s = true ∧
      s.replies = (okAnswers 3).map PinReply.answered ++ [] ∧ (okAnswers 3).length = 3 ∧
      (∀ a ∈ okAnswers 3, a.err = false) := by
  refine ⟨rfl, rfl, rfl, by decide, rfl, by decide, by decide, rfl, by decide, by decide⟩
theorem witness_setupRun_idle :
    let s := { checking 1 .idle with replies := (okAnswers 9).map PinReply.answered ++ [] }
    s.rstN = true ∧ s.agenda = [] ∧ s.phase = .check ∧ decode s.cur = .ok .setup ∧ s.state = .idle ∧
      s.cfgPins.distinct = true ∧ pinsValid s.cfgPins s = true ∧
      s.replies = (okAnswers 9).map PinReply.answered ++ [] ∧ (okAnswers 9).length = 9 ∧
      (∀ a ∈ (okAnswers 9).drop 6, a.err = false) := by
  refine ⟨rfl, rfl, rfl, by decide, rfl, by decide, by decide, rfl, by decide, by decide⟩
theorem witness_teardownRun :
    let s := { checking 4 .idle with replies := (okAnswers 6).map PinReply.answered ++ [] }
    s.rstN = true ∧ s.agenda = [] ∧ s.phase = .check ∧ decode s.cur = .ok .teardown ∧ s.state = .idle ∧
      s.replies = (okAnswers 6).map PinReply.answered ++ [] ∧ (okAnswers 6).length = 6 := by
  refine ⟨rfl, rfl, rfl, by decide, rfl, rfl, by decide⟩
theorem witness_secondTeardown :
    let s := { State.reset with state := .released, agenda := [.host (issue .teardown)] }
    s.rstN = true ∧ s.busy = false ∧ s.state = .released ∧ s.agenda = [.host (issue .teardown)] := by
  refine ⟨rfl, rfl, rfl, rfl⟩
theorem witness_contract :
    let tr := (configureEvents vectorPins 2000).map (fun e => (⟨e, some ⟨false, false⟩⟩ : TraceEntry))
    vectorPins.distinct = true ∧ (∀ t ∈ tr, t.succeeded = true) ∧
      tr.map TraceEntry.event = configureEvents vectorPins 2000 := by decide

end Sys2Proof.Tests
end

/-! # The register window and the sticky flags (10_state.md)

The reserved bits of the register window (R44), the reset table (R43), what a command's own completion adds
(R34), and, agent by agent, what a step does to GLITCH, RELERR and OVR (R27 to R29). -/

namespace Sys2Proof.Machine

open Sys2Proof

/-! ## Unmapped offsets -/

theorem readReg_of_unmapped {off : BitVec 6} (h : off ∉ mappedOffsets) (s : State) : readReg off s = 0 := by
  unfold readReg
  split <;> simp_all [mappedOffsets]

theorem writeReg_of_unmapped {off : BitVec 6} (h : off ∉ mappedOffsets) (w : Word) (s : State) :
    writeReg off w s = s := by
  unfold writeReg
  split <;> simp_all [mappedOffsets]

theorem definedBits_of_unmapped {off : BitVec 6} (h : off ∉ mappedOffsets) : definedBits off = 0 := by
  unfold definedBits
  split <;> simp_all [mappedOffsets]

/-! ## What the registers read as has no reserved bit (R44)

Each mask of reserved bits is written as the layout is, piece by piece, so that it meets the padding alone. -/

theorem statusWord_reserved (s : State) : statusWord s &&& ~~~0x00000777#32 = 0 := by
  show 0#21 ++ BitVec.ofBool s.ovr ++ BitVec.ofBool s.relerr ++ BitVec.ofBool s.glitch ++ 0#1 ++ s.err.code
      ++ 0#1 ++ BitVec.ofBool s.busy ++ s.state.code
    &&& BitVec.allOnes 21 ++ 0#1 ++ 0#1 ++ 0#1 ++ 1#1 ++ 0#3 ++ 1#1 ++ 0#1 ++ 0#2 = _
  simp only [BitVec.and_append, BitVec.and_zero, BitVec.zero_and]
  rfl

theorem result_toWord_reserved (r : Result) : r.toWord &&& ~~~0x07FFFFFF#32 = 0 := by
  show 0#5 ++ BitVec.ofBool r.valid ++ BitVec.ofBool r.kind ++ BitVec.ofBool r.matched ++ r.second ++ r.first
      ++ r.sample
    &&& BitVec.allOnes 5 ++ 0#1 ++ 0#1 ++ 0#1 ++ 0#8 ++ 0#8 ++ 0#8 = _
  simp only [BitVec.and_append, BitVec.and_zero, BitVec.zero_and]
  rfl

theorem pins_toWord_reserved (p : Pins) : p.toWord &&& ~~~0x01FFFFFF#32 = 0 := by
  show 0#7 ++ BitVec.ofBool (Scheme.bit p.scheme) ++ p.dio ++ p.clk ++ p.cs
    &&& BitVec.allOnes 7 ++ 0#1 ++ 0#8 ++ 0#8 ++ 0#8 = _
  simp only [BitVec.and_append, BitVec.and_zero, BitVec.zero_and]
  rfl

theorem options_toWord_reserved (o : Options) : o.toWord &&& ~~~0x00000003#32 = 0 := by
  show 0#30 ++ BitVec.ofBool o.mismatchZero ++ BitVec.ofBool o.secondLsb
    &&& BitVec.allOnes 30 ++ 0#1 ++ 0#1 = _
  simp only [BitVec.and_append, BitVec.and_zero, BitVec.zero_and]
  rfl

theorem cmdWord_reserved (s : State) : cmdWord s &&& ~~~0x0000FF0F#32 = 0 := by
  rw [cmdWord, commandWord_fields, acceptedWord, BitVec.and_assoc, BitVec.and_not_self]
  exact BitVec.and_zero

theorem delay_reserved (d : Word) : d &&& ~~~0xFFFFFFFF#32 = 0 := BitVec.and_zero

theorem readReg_reserved (off : BitVec 6) (s : State) : readReg off s &&& ~~~(definedBits off) = 0 := by
  by_cases h : off ∈ mappedOffsets
  · simp only [mappedOffsets, List.mem_cons, List.not_mem_nil, or_false] at h
    rcases h with rfl | rfl | rfl | rfl | rfl | rfl | rfl | rfl | rfl
    · exact cmdWord_reserved s
    · exact statusWord_reserved s
    · exact result_toWord_reserved s.result
    · exact pins_toWord_reserved s.cfgPins
    · exact delay_reserved s.cfgDelay
    · exact options_toWord_reserved s.cfgOpt
    · exact pins_toWord_reserved s.actPins
    · exact delay_reserved s.actDelay
    · exact options_toWord_reserved s.actOpt
  · rw [readReg_of_unmapped h]
    exact BitVec.zero_and

/-! ## Writes do not see the reserved bits (R44) -/

@[simp] theorem accept_acceptedWord (w : Word) (s : State) : accept (acceptedWord w) s = accept w s := by
  simp only [accept, acceptedWord_idem]

theorem writeCmd_mask (w : Word) (s : State) : writeCmd (w &&& 0x0000FF0F#32) s = writeCmd w s := by
  show writeCmd (acceptedWord w) s = writeCmd w s
  simp only [writeCmd, accept_acceptedWord]

theorem clearSticky_mask (w : Word) (s : State) : clearSticky (w &&& 0x00000777#32) s = clearSticky w s := by
  simp [clearSticky]

theorem pins_ofWord_mask (w : Word) : Pins.ofWord (w &&& 0x01FFFFFF#32) = Pins.ofWord w := by
  have hbyte : ∀ k ∈ [0, 8, 16], (0x01FFFFFF#32).extractLsb' k 8 = BitVec.allOnes 8 := by decide
  have hkeep (k : Nat) (hk : k ∈ [0, 8, 16]) :
      (w &&& 0x01FFFFFF#32).extractLsb' k 8 = w.extractLsb' k 8 := by
    rw [BitVec.extractLsb'_and, hbyte k hk, BitVec.and_allOnes]
  simp [Pins.ofWord, hkeep 0, hkeep 8, hkeep 16]

theorem options_ofWord_mask (w : Word) : Options.ofWord (w &&& 0x00000003#32) = Options.ofWord w := by
  simp [Options.ofWord]

theorem delay_mask (d : Word) : d &&& 0xFFFFFFFF#32 = d := BitVec.and_allOnes

theorem writeReg_mask (off : BitVec 6) (w : Word) (s : State) :
    writeReg off (w &&& definedBits off) s = writeReg off w s := by
  by_cases h : off ∈ mappedOffsets
  · simp only [mappedOffsets, List.mem_cons, List.not_mem_nil, or_false] at h
    rcases h with rfl | rfl | rfl | rfl | rfl | rfl | rfl | rfl | rfl
    · exact writeCmd_mask w s
    · exact clearSticky_mask w s
    · rfl
    · exact congrArg (fun p => { s with cfgPins := p }) (pins_ofWord_mask w)
    · exact congrArg (fun d => { s with cfgDelay := d }) (delay_mask w)
    · exact congrArg (fun o => { s with cfgOpt := o }) (options_ofWord_mask w)
    · rfl
    · rfl
    · rfl
  · rw [writeReg_of_unmapped h, writeReg_of_unmapped h]

/-- Settles O34: reads and writes register by register; an unmapped offset has no defined bit. -/
theorem reservedBitsReadZero : Obligations.ReservedBitsReadZero := fun s off w =>
  ⟨readReg_reserved off s, writeReg_mask off w s, definedBits_of_unmapped⟩

/-! ## The reset table (R43) -/

/-- Settles O40: each entry of the table is a field of State.reset, or a register read from it. -/
theorem resetValues : Obligations.ResetValues := by
  unfold Obligations.ResetValues
  decide

/-! ## What a command's own completion adds (R34) -/

/-- A command's own completion shows only in the completion step of a command that was not aborted. -/
theorem commandStep_congr_onOk {s : State} (h : ¬ (s.phase = .run ∧ s.seq = [] ∧ s.aborted = false))
    (c o o' : State → State) : commandStep c o s = commandStep c o' s := by
  cases hp : s.phase with
  | none => rw [commandStep_none c o hp, commandStep_none c o' hp]
  | check => rw [commandStep_check c o hp, commandStep_check c o' hp]
  | run =>
    cases hq : s.seq with
    | nil =>
      have ha : s.aborted = true := by simpa [hp, hq] using h
      rw [commandStep_done c o hp hq, commandStep_done c o' hp hq, completionStep_aborted o ha,
        completionStep_aborted o' ha]
    | cons x rest => rw [commandStep_event c o hp hq, commandStep_event c o' hp hq]

theorem commandStep_unaborted_done {s : State} (c o : State → State) (hp : s.phase = .run)
    (hq : s.seq = []) (ha : s.aborted = false) :
    commandStep c o s =
      { o s with err := .ok, state := s.nextState, busy := false, phase := .none } := by
  rw [commandStep_done c o hp hq, completionStep_ok o ha]

theorem reconcile_kind_eq (s : State) (k k' : Bool) :
    reconcile k s = { reconcile k' s with result := { (reconcile k' s).result with kind := k } } := rfl

/-- Settles O19: outside an unaborted completion the two steps are one, and there they add the two
reconciliations, which differ in KIND alone. -/
theorem kindIsTheOnlyDifference : Obligations.KindIsTheOnlyDifference := by
  intro s t u ch ht hu
  obtain rfl : commandStep (checkOf (.read ch)) (reconcile false) s = t := Host.Outcome.next.inj ht
  obtain rfl : commandStep (checkOf (.read ch)) (reconcile true) s = u := Host.Outcome.next.inj hu
  by_cases h : s.phase = .run ∧ s.seq = [] ∧ s.aborted = false
  · obtain ⟨hp, hq, ha⟩ := h
    rw [commandStep_unaborted_done _ _ hp hq ha, commandStep_unaborted_done _ _ hp hq ha,
      reconcile_kind_eq s true false]
    exact ⟨rfl, fun _ _ _ => ⟨rfl, rfl⟩⟩
  · rw [commandStep_congr_onOk h _ (reconcile true) (reconcile false)]
    exact ⟨rfl, fun hp hq ha => absurd ⟨hp, hq, ha⟩ h⟩

/-! ## Which commands read the converter -/

/-- READ and READ_BOTH are the commands that read the converter. -/
def readsConverter : Instr → Bool
  | .setup => false
  | .read _ => true
  | .readBoth _ => true
  | .teardown => false

theorem isReadWord_of_decode {w : Word} {i : Instr} (h : decode w = .ok i) :
    isReadWord w = readsConverter i := by
  unfold decode at h
  unfold isReadWord
  split at h <;> cases h <;> simp [*, readsConverter]

theorem isReadWord_of_decode_error {w : Word} {e : DecodeError} (h : decode w = .error e) :
    isReadWord w = false := by
  unfold decode at h
  unfold isReadWord
  split at h <;> cases h
  simp_all

/-! ## The sticky flags on the Controller's turn -/

theorem checkOf_keeps_flags (i : Instr) (s : State) :
    (checkOf i s).glitch = s.glitch ∧ (checkOf i s).relerr = s.relerr ∧ (checkOf i s).ovr = s.ovr := by
  have hread (ch : Nat) : (readCheck ch (beginCheck s)).glitch = s.glitch ∧
      (readCheck ch (beginCheck s)).relerr = s.relerr ∧ (readCheck ch (beginCheck s)).ovr = s.ovr := by
    obtain ⟨-, h⟩ | ⟨-, -, h⟩ | ⟨-, -, h⟩ := readCheck_cases ch (beginCheck s) <;> simp [h]
  cases i with
  | setup =>
    obtain ⟨-, h⟩ | ⟨-, -, h⟩ := setupCheck_cases (beginCheck s) <;> simp [checkOf, h]
  | read ch => exact hread ch
  | readBoth ch => exact hread ch
  | teardown => exact ⟨rfl, rfl, rfl⟩

theorem eventStep_keeps_glitch_ovr (e : Event) (tag : Tag) (rest : List (Event × Tag)) (s : State) :
    (eventStep e tag rest s).glitch = s.glitch ∧ (eventStep e tag rest s).ovr = s.ovr := by
  obtain ⟨-, h⟩ | ⟨-, ⟨_, -, h⟩ | ⟨a, -, ⟨-, -, h⟩ | ⟨-, -, h⟩ | ⟨-, -, h⟩ | ⟨-, -, h⟩⟩⟩ :=
    eventStep_cases e tag rest s <;> simp [h]

/-- An event step sets RELERR exactly when a RELEASE operation is answered with `err` = 1
(41_command_engine.md R125). -/
theorem eventStep_relerr_iff (e : Event) (tag : Tag) (rest : List (Event × Tag)) (s : State) :
    (eventStep e tag rest s).relerr = true ↔ s.relerr = true ∨
      (tag = .release ∧ e.isPinOp = true ∧ ∃ lvl, nextReply s = .answered ⟨lvl, true⟩) := by
  cases he : e.isPinOp with
  | false =>
    cases e <;> simp [Event.isPinOp] at he
    simp
  | true =>
    rw [eventStep_pinOp he]
    cases hr : nextReply s with
    | notReady => simp [pinOpStep_notReady hr]
    | pending => simp [pinOpStep_pending hr]
    | answered a =>
      obtain ⟨lvl, err⟩ := a
      rw [pinOpStep_answered hr]
      cases err
      · by_cases hread : e.isRead = true <;> simp [finishPinOp, hread]
      · cases tag <;> simp [finishPinOp, pinError]

theorem completionStep_keeps_relerr_ovr (i : Instr) (s : State) :
    (completionStep (onOkOf i) s).relerr = s.relerr ∧ (completionStep (onOkOf i) s).ovr = s.ovr := by
  cases ha : s.aborted with
  | true => simp [completionStep_aborted _ ha]
  | false => rw [completionStep_ok _ ha]; cases i <;> exact ⟨rfl, rfl⟩

theorem reconcile_glitch_iff (k : Bool) (s : State) :
    (reconcile k s).glitch = true ↔
      s.glitch = true ∨ (reconcile k s).result.first ≠ (reconcile k s).result.second := by
  simp [reconcile, glitchAfter, compareSamples, matchFlag]

/-- A completion sets GLITCH exactly when it is an unaborted read's and its samples differ
(43_transaction.md R174). -/
theorem completionStep_glitch_iff (i : Instr) (s : State) :
    (completionStep (onOkOf i) s).glitch = true ↔ s.glitch = true ∨
      (s.aborted = false ∧ readsConverter i = true ∧
        (completionStep (onOkOf i) s).result.first ≠ (completionStep (onOkOf i) s).result.second) := by
  cases ha : s.aborted with
  | true => simp [completionStep_aborted _ ha]
  | false =>
    rw [completionStep_ok _ ha]
    cases i with
    | setup => simp [onOkOf, readsConverter]
    | read ch => simpa [onOkOf, readsConverter] using reconcile_glitch_iff false s
    | readBoth ch => simpa [onOkOf, readsConverter] using reconcile_glitch_iff true s
    | teardown => simp [onOkOf, readsConverter]

/-- An unassigned OP's completion, which no run reaches (log 12), adds nothing: it is SETUP's. -/
theorem completionStep_id (s : State) : completionStep id s = completionStep (onOkOf .setup) s := rfl

theorem controllerTurn_idle {s t : State} (hp : s.phase = .none) (h : controllerTurn s = .next t) :
    t = s := by
  simpa [hp] using controllerTurn_cases h

theorem controllerTurn_keeps_ovr {s t : State} (h : controllerTurn s = .next t) : t.ovr = s.ovr := by
  obtain ⟨-, rfl⟩ | ⟨-, ⟨i, -, rfl⟩ | ⟨_, -, rfl⟩⟩ | ⟨-, -, ⟨i, -, rfl⟩ | ⟨_, -, rfl⟩⟩ |
    ⟨-, e, tag, rest, -, rfl⟩ := controllerTurn_cases h
  · rfl
  · exact (checkOf_keeps_flags i s).2.2
  · rfl
  · exact (completionStep_keeps_relerr_ovr i s).2
  · exact (completionStep_keeps_relerr_ovr .setup s).2
  · exact (eventStep_keeps_glitch_ovr e tag rest s).2

theorem controllerTurn_relerr_iff {s t : State} (h : controllerTurn s = .next t) :
    t.relerr = true ↔ s.relerr = true ∨ (s.phase = .run ∧ ∃ e rest lvl, s.seq = (e, .release) :: rest ∧
      e.isPinOp = true ∧ nextReply s = .answered ⟨lvl, true⟩) := by
  obtain ⟨hp, rfl⟩ | ⟨hp, ⟨i, -, rfl⟩ | ⟨_, -, rfl⟩⟩ | ⟨hp, hq, ⟨i, -, rfl⟩ | ⟨_, -, rfl⟩⟩ |
    ⟨hp, e, tag, rest, hq, rfl⟩ := controllerTurn_cases h
  · simp [hp]
  · simp [hp, (checkOf_keeps_flags i s).2.1]
  · simp [hp]
  · simp [hq, (completionStep_keeps_relerr_ovr i s).1]
  · simp [hq, completionStep_id, (completionStep_keeps_relerr_ovr .setup s).1]
  · rw [eventStep_relerr_iff]
    cases tag <;> simp [hp, hq]

theorem controllerTurn_glitch_iff {s t : State} (h : controllerTurn s = .next t) :
    t.glitch = true ↔ s.glitch = true ∨ (s.phase = .run ∧ s.seq = [] ∧ s.aborted = false ∧
      isReadWord s.cur = true ∧ t.result.first ≠ t.result.second) := by
  obtain ⟨hp, rfl⟩ | ⟨hp, ⟨i, -, rfl⟩ | ⟨_, -, rfl⟩⟩ | ⟨hp, hq, ⟨i, hd, rfl⟩ | ⟨_, hd, rfl⟩⟩ |
    ⟨hp, e, tag, rest, hq, rfl⟩ := controllerTurn_cases h
  · simp [hp]
  · simp [hp, (checkOf_keeps_flags i s).1]
  · simp [hp]
  · simp [hp, hq, isReadWord_of_decode hd, completionStep_glitch_iff i s]
  · simp [isReadWord_of_decode_error hd, completionStep_id, completionStep_glitch_iff .setup s,
      readsConverter]
  · simp [hq, (eventStep_keeps_glitch_ovr e tag rest s).1]

/-! ## The sticky flags at a host access -/

/-- A host write of STATUS with bit `k` set (44_register_access.md R192). -/
def ClearsBit (k : Nat) (a : HostAccess) : Prop := ∃ w, a = .write 0x04#6 w ∧ w.getLsbD k = true

theorem writeReg_cases (off : BitVec 6) (w : Word) (s : State) :
    (off = 0x00#6 ∧ writeReg off w s = writeCmd w s) ∨
    (off = 0x04#6 ∧ writeReg off w s = clearSticky w s) ∨
    (off ≠ 0x00#6 ∧ off ≠ 0x04#6 ∧
      ∃ p d o, writeReg off w s = { s with cfgPins := p, cfgDelay := d, cfgOpt := o }) := by
  unfold writeReg
  split
  · exact .inl ⟨rfl, rfl⟩
  · exact .inr (.inl ⟨rfl, rfl⟩)
  · exact .inr (.inr ⟨by decide, by decide, Pins.ofWord w, s.cfgDelay, s.cfgOpt, rfl⟩)
  · exact .inr (.inr ⟨by decide, by decide, s.cfgPins, w, s.cfgOpt, rfl⟩)
  · exact .inr (.inr ⟨by decide, by decide, s.cfgPins, s.cfgDelay, Options.ofWord w, rfl⟩)
  · exact .inr (.inr ⟨by assumption, by assumption, s.cfgPins, s.cfgDelay, s.cfgOpt, rfl⟩)

/-- What a host access out of reset can be: a write of CMD, a write of STATUS, or an access that touches only
the staged configuration and the value read. -/
theorem hostAccess_cases {s : State} (hr : s.rstN = true) (a : HostAccess) :
    (∃ w, a = .write 0x00#6 w ∧ hostAccess a s = writeCmd w s) ∨
    (∃ w, a = .write 0x04#6 w ∧ hostAccess a s = clearSticky w s) ∨
    ((∀ w, a ≠ .write 0x00#6 w) ∧ (∀ w, a ≠ .write 0x04#6 w) ∧ ∃ p d o r,
      hostAccess a s = { s with cfgPins := p, cfgDelay := d, cfgOpt := o, rdata := r }) := by
  cases a with
  | read off => exact .inr (.inr ⟨nofun, nofun, s.cfgPins, s.cfgDelay, s.cfgOpt, readReg off s, rfl⟩)
  | write off w =>
    rw [hostAccess_write hr]
    obtain ⟨rfl, h⟩ | ⟨rfl, h⟩ | ⟨h0, h4, p, d, o, h⟩ := writeReg_cases off w s
    · exact .inl ⟨w, rfl, h⟩
    · exact .inr (.inl ⟨w, rfl, h⟩)
    · exact .inr (.inr ⟨by simp [h0], by simp [h4], p, d, o, s.rdata, h⟩)

theorem writeCmd_keeps_glitch_relerr (w : Word) (s : State) :
    (writeCmd w s).glitch = s.glitch ∧ (writeCmd w s).relerr = s.relerr := by
  cases hb : s.busy <;> simp [writeCmd, hb]

/-- A write of CMD sets OVR exactly when it is dropped (41_command_engine.md R121). -/
theorem writeCmd_ovr (w : Word) (s : State) : (writeCmd w s).ovr = (s.ovr || s.busy) := by
  cases hb : s.busy <;> simp [writeCmd, hb]

theorem stickyAfterWrite_eq_true (old w1 : Bool) :
    stickyAfterWrite old w1 = true ↔ old = true ∧ ¬ w1 = true := by
  simp [stickyAfterWrite]

theorem hostAccess_glitch_iff {s : State} (hr : s.rstN = true) (a : HostAccess) :
    (hostAccess a s).glitch = true ↔ s.glitch = true ∧ ¬ ClearsBit 8 a := by
  obtain ⟨w, rfl, h⟩ | ⟨w, rfl, h⟩ | ⟨-, h4, _, _, _, _, h⟩ := hostAccess_cases hr a
  · simp [h, ClearsBit, (writeCmd_keeps_glitch_relerr w s).1]
  · simp [h, ClearsBit, stickyAfterWrite_eq_true]
  · simp [h, ClearsBit, h4]

theorem hostAccess_relerr_iff {s : State} (hr : s.rstN = true) (a : HostAccess) :
    (hostAccess a s).relerr = true ↔ s.relerr = true ∧ ¬ ClearsBit 9 a := by
  obtain ⟨w, rfl, h⟩ | ⟨w, rfl, h⟩ | ⟨-, h4, _, _, _, _, h⟩ := hostAccess_cases hr a
  · simp [h, ClearsBit, (writeCmd_keeps_glitch_relerr w s).2]
  · simp [h, ClearsBit, stickyAfterWrite_eq_true]
  · simp [h, ClearsBit, h4]

theorem hostAccess_ovr_iff {s : State} (hr : s.rstN = true) (a : HostAccess) :
    (hostAccess a s).ovr = true ↔
      (s.ovr = true ∧ ¬ ClearsBit 10 a) ∨ (s.busy = true ∧ ∃ w, a = .write 0x00#6 w) := by
  obtain ⟨w, rfl, h⟩ | ⟨w, rfl, h⟩ | ⟨h0, h4, _, _, _, _, h⟩ := hostAccess_cases hr a
  · simp [h, ClearsBit, writeCmd_ovr]
  · simp [h, ClearsBit, stickyAfterWrite_eq_true]
  · simp [h, ClearsBit, h0, h4]

/-! ## The sticky flags over a step -/

/-- What clears the sticky flag at bit `k` of STATUS: reset, or the host's write of 1 to the bit. -/
def FlagCleared (k : Nat) (s : State) : Prop :=
  ResetMove s ∨ ∃ w, nextMove s = .host (.write 0x04#6 w) ∧ w.getLsbD k = true

theorem not_flagCleared_of_controller {s : State} (h : ControllerMoves s) (k : Nat) :
    ¬ FlagCleared k s := by
  simp [FlagCleared, ResetMove, h.1, h.2]

theorem flagCleared_iff_of_host {s : State} {a : HostAccess} (hr : s.rstN = true)
    (hm : nextMove s = .host a) (k : Nat) : FlagCleared k s ↔ ClearsBit k a := by
  simp [FlagCleared, ResetMove, ClearsBit, hr, hm]

theorem not_controllerMoves_of_reset {s : State} (h : ResetMove s) : ¬ ControllerMoves s :=
  fun hc => not_flagCleared_of_controller hc 0 (.inl h)

/-- A step that is or comes under reset leaves the three flags 0 (70_reset_and_hazards.md R230). -/
theorem step_flags_of_reset {s t : State} (hr : ResetMove s) (h : step s = .next t) :
    t.glitch = false ∧ t.relerr = false ∧ t.ovr = false := by
  cases hn : s.rstN with
  | true =>
    have hm : nextMove s = .rst false := by simpa [ResetMove, hn] using hr
    rw [step_rst hn hm] at h
    cases h
    exact ⟨rfl, rfl, rfl⟩
  | false =>
    have hu : takeMove (underReset s) = takeMove (hardReset s) := by rw [underReset_of_not_rstN hn]
    obtain ⟨-, hc⟩ | ⟨a, -, rfl⟩ | ⟨b, -, rfl⟩ | ⟨_, _, -, -, rfl⟩ := step_cases h
    · rw [hu] at hc
      rw [controllerTurn_idle rfl hc]
      exact ⟨rfl, rfl, rfl⟩
    · rw [hu]
      cases a <;> simp [hostAccess, hn, State.reset]
    · cases b <;> simp [hu, driveReset, State.reset]
    · simp [hu, State.reset]

/-- Whose step it is, as far as the sticky flags see: reset's, the Controller's, the host's, or that of a
change that leaves them alone (`rst_ni` kept at 1, or a late answer). -/
theorem step_flag_cases {s t : State} (h : step s = .next t) :
    (ResetMove s ∧ t.glitch = false ∧ t.relerr = false ∧ t.ovr = false) ∨
    (ControllerMoves s ∧ controllerTurn (takeMove s) = .next t) ∨
    (s.rstN = true ∧ ∃ a, nextMove s = .host a ∧ t = hostAccess a (takeMove s)) ∨
    (¬ ResetMove s ∧ nextMove s ≠ .controller ∧ (∀ a, nextMove s ≠ .host a) ∧
      t.glitch = s.glitch ∧ t.relerr = s.relerr ∧ t.ovr = s.ovr) := by
  by_cases hr : ResetMove s
  · exact .inl ⟨hr, step_flags_of_reset hr h⟩
  · obtain ⟨hn, hm⟩ : s.rstN = true ∧ nextMove s ≠ .rst false := by simpa [ResetMove] using hr
    have hc := step_cases h
    rw [underReset_of_rstN hn] at hc
    obtain ⟨hm', hc⟩ | ⟨a, hm', rfl⟩ | ⟨b, hm', rfl⟩ | ⟨_, _, hm', -, rfl⟩ := hc
    · exact .inr (.inl ⟨⟨hn, hm'⟩, hc⟩)
    · exact .inr (.inr (.inl ⟨hn, a, hm', rfl⟩))
    · obtain rfl : b = true := by simpa [hm'] using hm
      exact .inr (.inr (.inr ⟨hr, by simp [hm'], by simp [hm'], rfl, rfl, rfl⟩))
    · exact .inr (.inr (.inr ⟨hr, by simp [hm'], by simp [hm'], rfl, rfl, rfl⟩))

/-- What sets GLITCH: an unaborted read's completion that leaves differing samples (10_state.md R27). -/
def GlitchSet (s t : State) : Prop :=
  ControllerMoves s ∧ s.phase = .run ∧ s.seq = [] ∧ s.aborted = false ∧ isReadWord s.cur = true ∧
    t.result.first ≠ t.result.second

/-- What sets RELERR: an error answered to a RELEASE operation (10_state.md R28). -/
def RelerrSet (s : State) : Prop :=
  ControllerMoves s ∧ s.phase = .run ∧ ∃ e rest lvl, s.seq = (e, .release) :: rest ∧
    e.isPinOp = true ∧ nextReply s = .answered ⟨lvl, true⟩

/-- What sets OVR: a host write of CMD while BUSY (10_state.md R29). -/
def OvrSet (s : State) : Prop := s.rstN = true ∧ s.busy = true ∧ ∃ w, nextMove s = .host (.write 0x00#6 w)

theorem not_flagCleared_of_ovrSet {s : State} (h : OvrSet s) (k : Nat) : ¬ FlagCleared k s := by
  obtain ⟨hr, -, w, hm⟩ := h
  simp [flagCleared_iff_of_host hr hm, ClearsBit]

theorem not_ovrSet_of_reset {s : State} (h : ResetMove s) : ¬ OvrSet s :=
  fun ho => not_flagCleared_of_ovrSet ho 0 (.inl h)

theorem step_glitch_iff {s t : State} (h : step s = .next t) :
    t.glitch = true ↔ (s.glitch = true ∧ ¬ FlagCleared 8 s) ∨ GlitchSet s t := by
  obtain ⟨hr, hg, -, -⟩ | ⟨hc, ht⟩ | ⟨hr, a, hm, rfl⟩ | ⟨hr, hc, hh, hg, -, -⟩ := step_flag_cases h
  · simp [hg, FlagCleared, GlitchSet, hr, not_controllerMoves_of_reset hr]
  · simpa [GlitchSet, hc, not_flagCleared_of_controller hc] using controllerTurn_glitch_iff ht
  · simp [hostAccess_glitch_iff (s := takeMove s) hr, flagCleared_iff_of_host hr hm, GlitchSet,
      ControllerMoves, hm]
  · simp [hg, FlagCleared, GlitchSet, ControllerMoves, hr, hc, hh]

theorem step_relerr_iff {s t : State} (h : step s = .next t) :
    t.relerr = true ↔ (s.relerr = true ∧ ¬ FlagCleared 9 s) ∨ RelerrSet s := by
  obtain ⟨hr, -, hf, -⟩ | ⟨hc, ht⟩ | ⟨hr, a, hm, rfl⟩ | ⟨hr, hc, hh, -, hf, -⟩ := step_flag_cases h
  · simp [hf, FlagCleared, RelerrSet, hr, not_controllerMoves_of_reset hr]
  · simpa [RelerrSet, hc, not_flagCleared_of_controller hc] using controllerTurn_relerr_iff ht
  · simp [hostAccess_relerr_iff (s := takeMove s) hr, flagCleared_iff_of_host hr hm, RelerrSet,
      ControllerMoves, hm]
  · simp [hf, FlagCleared, RelerrSet, ControllerMoves, hr, hc, hh]

theorem step_ovr_iff {s t : State} (h : step s = .next t) :
    t.ovr = true ↔ (s.ovr = true ∧ ¬ FlagCleared 10 s) ∨ OvrSet s := by
  obtain ⟨hr, -, -, hf⟩ | ⟨hc, ht⟩ | ⟨hr, a, hm, rfl⟩ | ⟨hr, hc, hh, -, -, hf⟩ := step_flag_cases h
  · simp [hf, FlagCleared, hr, not_ovrSet_of_reset hr]
  · simp [controllerTurn_keeps_ovr ht, OvrSet, hc.2, not_flagCleared_of_controller hc]
  · simp [hostAccess_ovr_iff (s := takeMove s) hr, flagCleared_iff_of_host hr hm, OvrSet, hr, hm]
  · simp [hf, FlagCleared, OvrSet, hr, hh]

/-- Where the causes that set a flag exclude those that clear it, each alone decides its direction. -/
theorem sticky_clauses {old new : Bool} {cleared sets : Prop}
    (h : new = true ↔ (old = true ∧ ¬ cleared) ∨ sets) (hx : sets → ¬ cleared) :
    (old = true → (new = false ↔ cleared)) ∧ (old = false → (new = true ↔ sets)) := by
  refine ⟨fun ho => ?_, fun ho => by simpa [ho] using h⟩
  rw [← Bool.not_eq_true, h]
  by_cases hc : cleared
  · simpa [hc] using fun hs => hx hs hc
  · simp [ho, hc]

/-- Settles O51: flag by flag, from what a step leaves in it; what sets a flag is never what clears it. -/
theorem stickyFlags : Obligations.StickyFlags := by
  intro s t h
  obtain ⟨glitchClears, glitchSets⟩ := sticky_clauses (step_glitch_iff h)
    fun hs => not_flagCleared_of_controller hs.1 8
  obtain ⟨relerrClears, relerrSets⟩ := sticky_clauses (step_relerr_iff h)
    fun hs => not_flagCleared_of_controller hs.1 9
  obtain ⟨ovrClears, ovrSets⟩ := sticky_clauses (step_ovr_iff h) fun hs => not_flagCleared_of_ovrSet hs 10
  exact ⟨glitchClears, relerrClears, ovrClears, glitchSets, relerrSets, ovrSets⟩

end Sys2Proof.Machine

/-! # Unmapped accesses (20_memory.md R65) -/

namespace Sys2Proof.Machine

open Sys2Proof

theorem mem_mappedOffsets_iff (off : BitVec 6) :
    off ∈ mappedOffsets ↔ off.toNat < 0x24 ∧ off.toNat % 4 = 0 := by
  simp only [mappedOffsets, List.mem_cons, List.not_mem_nil, or_false, ← BitVec.toNat_inj,
    BitVec.reduceToNat]
  omega

theorem not_mem_mappedOffsets_iff (off : BitVec 6) :
    off ∉ mappedOffsets ↔ 0x24 ≤ off.toNat ∨ off.toNat % 4 ≠ 0 := by
  rw [mem_mappedOffsets_iff, not_and_or, not_lt]

/-- Out of reset the write reaches no register; under reset no write does. -/
theorem hostAccess_write_of_unmapped {off : BitVec 6} (h : off ∉ mappedOffsets) (w : Word) (s : State) :
    hostAccess (.write off w) s = s := by
  rw [hostAccess, writeReg_of_unmapped h, ite_self]

/-- Settles O35: the unmapped offsets by number; a read or write of one finds no register. -/
theorem unmappedAccessIsInert : Obligations.UnmappedAccessIsInert :=
  ⟨not_mem_mappedOffsets_iff, fun s _ w h =>
    ⟨readReg_of_unmapped h s, hostAccess_write_of_unmapped h w s⟩⟩

end Sys2Proof.Machine

/-! # The encoding of command words (30_encoding.md)

The reserved bits of a command word (R83), and what an unassigned OP does (R84, 60_exceptions.md R205). -/

namespace Sys2Proof.Machine

open Sys2Proof

/-! ## Reserved bits (R83) -/

/-- Decoding sees only the OP and CH fields, and acceptance keeps both. -/
@[simp] theorem decode_acceptedWord (w : Word) : decode (acceptedWord w) = decode w := by
  simp only [decode, chOperand, opField_acceptedWord, chField_acceptedWord]

theorem opField_and_opMask (w : Word) : opField (w &&& 0x0000000F#32) = opField w := by
  have hmask : (0x0000000F#32).extractLsb' 0 4 = BitVec.allOnes 4 := by decide
  rw [opField, BitVec.extractLsb'_and, hmask, BitVec.and_allOnes, opField]

theorem writeCmd_of_not_busy {s : State} (h : s.busy = false) (w : Word) : writeCmd w s = accept w s := by
  simp [writeCmd, h]

theorem hostAccess_writeCmd_mask (w : Word) (s : State) :
    hostAccess (.write 0x00 (w &&& 0x0000FF0F#32)) s = hostAccess (.write 0x00 w) s := by
  cases hr : s.rstN with
  | true =>
    rw [hostAccess_write hr, hostAccess_write hr]
    exact writeCmd_mask w s
  | false => simp [hostAccess, hr]

theorem hostAccess_writeCmd_accept {s : State} (hr : s.rstN = true) (hb : s.busy = false) (w : Word) :
    hostAccess (.write 0x00 w) s = accept w s := by
  rw [hostAccess_write hr]
  exact writeCmd_of_not_busy hb w

/-- An accepted word reads back from CMD with its reserved bits 0 (10_state.md R22). -/
theorem cmdWord_accept (w : Word) (s : State) : cmdWord (accept w s) = acceptedWord w := by
  rw [cmdWord, commandWord_fields, accept_cmd, acceptedWord_idem]

/-- Settles O4: the mask of an accepted word keeps the fields that decoding and the write of CMD use. -/
theorem reservedCommandBitsIgnored : Obligations.ReservedCommandBitsIgnored := by
  refine fun w s => ⟨(decode_acceptedWord w).symm, (opField_and_opMask w).symm,
    (hostAccess_writeCmd_mask w s).symm, fun hr hb => ?_⟩
  rw [hostAccess_writeCmd_accept hr hb]
  exact cmdWord_accept w s

/-! ## Unassigned OPs (R84) -/

theorem opField_toNat (w : Word) : (opField w).toNat = w.toNat % 16 := by
  simp [opField]

/-- The assigned OPs (R81), as fields and as numbers. -/
theorem opField_mem_assigned_iff (w : Word) :
    opField w ∈ ([0x1, 0x2, 0x3, 0x4] : List (BitVec 4)) ↔ w.toNat % 16 ∈ ([1, 2, 3, 4] : List Nat) := by
  simp [← opField_toNat, ← BitVec.toNat_inj]

theorem decode_of_unassigned {w : Word} (h : opField w ∉ ([0x1, 0x2, 0x3, 0x4] : List (BitVec 4))) :
    decode w = .error (.unassignedOp (opField w)) := by
  unfold decode
  split
  case h_5 => rfl
  all_goals simp_all

/-- The check step of an unassigned OP is ILLEGAL_COMMAND's (60_exceptions.md R205). -/
theorem controllerTurn_illegal {s : State} (hp : s.phase = .check)
    (h : opField s.cur ∉ ([0x1, 0x2, 0x3, 0x4] : List (BitVec 4))) :
    controllerTurn s = .next (raiseError .illegalCommand s) := by
  rw [controllerTurn_eq, decode_of_unassigned h]
  exact congrArg Host.Outcome.next (commandStep_check _ _ hp)

theorem step_illegal {s : State} (hc : ControllerMoves s) (hp : s.phase = .check)
    (h : opField s.cur ∉ ([0x1, 0x2, 0x3, 0x4] : List (BitVec 4))) :
    step s = .next (raiseError .illegalCommand (takeMove s)) := by
  rw [step_controller hc]
  exact controllerTurn_illegal hp h

/-- The host's write of an unassigned OP, then the Controller's turn. -/
theorem run_write_illegal {s : State} {w : Word} (hr : s.rstN = true) (hb : s.busy = false)
    (ha : s.agenda = [.host (.write 0x00 w)])
    (h : opField w ∉ ([0x1, 0x2, 0x3, 0x4] : List (BitVec 4))) :
    Host.Core.run Sys2Proof.core 2 s =
      .next (raiseError .illegalCommand (takeMove (accept w (takeMove s)))) := by
  have hmove : nextMove s = .host (.write 0x00 w) := by simp [nextMove, ha]
  have hwrite : step s = .next (accept w (takeMove s)) := by
    rw [step_host hr hmove, hostAccess_writeCmd_accept (s := takeMove s) hr hb]
  have hcheck : step (accept w (takeMove s)) =
      .next (raiseError .illegalCommand (takeMove (accept w (takeMove s)))) :=
    step_illegal ⟨hr, by simp [nextMove, ha]⟩ rfl (by simpa using h)
  rw [run_succ hwrite, run_succ hcheck, run_zero]

/-! ## The assigned commands never raise ILLEGAL_COMMAND (60_exceptions.md R205) -/

theorem checkOf_err_illegal (i : Instr) (s : State) (h : (checkOf i s).err = .illegalCommand) :
    s.err = .illegalCommand := by
  have hread (ch : Nat) (h : (readCheck ch (beginCheck s)).err = .illegalCommand) :
      s.err = .illegalCommand := by
    obtain ⟨-, hc⟩ | ⟨-, -, hc⟩ | ⟨-, -, hc⟩ := readCheck_cases ch (beginCheck s)
    · simp [hc] at h
    · simp [hc] at h
    · simpa [hc] using h
  cases i with
  | setup =>
    obtain ⟨-, hc⟩ | ⟨-, -, hc⟩ := setupCheck_cases (beginCheck s)
    · simp [checkOf, hc] at h
    · simpa [checkOf, hc] using h
  | read ch => exact hread ch h
  | readBoth ch => exact hread ch h
  | teardown => exact h

/-- A completion writes OK or BUS_ERROR. -/
theorem completionStep_err (onOk : State → State) (s : State) :
    (completionStep onOk s).err = if s.aborted then .busError else .ok := by
  cases ha : s.aborted with
  | true => simp [completionStep_aborted _ ha]
  | false => simp [completionStep_ok _ ha]

theorem eventStep_keeps_err (e : Event) (tag : Tag) (rest : List (Event × Tag)) (s : State) :
    (eventStep e tag rest s).err = s.err := by
  obtain ⟨-, h⟩ | ⟨-, ⟨_, -, h⟩ | ⟨a, -, ⟨-, -, h⟩ | ⟨-, -, h⟩ | ⟨-, -, h⟩ | ⟨-, -, h⟩⟩⟩ :=
    eventStep_cases e tag rest s <;> simp [h]

theorem commandStep_err_illegal (i : Instr) (s : State)
    (h : (commandStep (checkOf i) (onOkOf i) s).err = .illegalCommand) : s.err = .illegalCommand := by
  cases hp : s.phase with
  | none => rwa [commandStep_none _ _ hp] at h
  | check =>
    rw [commandStep_check _ _ hp] at h
    exact checkOf_err_illegal i s h
  | run =>
    cases hq : s.seq with
    | nil =>
      rw [commandStep_done _ _ hp hq, completionStep_err] at h
      split at h <;> contradiction
    | cons x rest => rwa [commandStep_event _ _ hp hq, eventStep_keeps_err] at h

/-- Settles O8: an unassigned OP decodes to no command, so its check step is the error alone; the steps of the
four commands write other codes or keep ERR. -/
theorem illegalCommandCompletes : Obligations.IllegalCommandCompletes := by
  refine ⟨fun s hc hp h => step_illegal hc hp h, fun s w hr hb ha h => ?_, fun i s t ht he => ?_⟩
  · rw [run_write_illegal hr hb ha (mt (opField_mem_assigned_iff w).mp h)]
    simp [raiseError, takeMove, accept, acceptedWord, ha]
  · obtain rfl : commandStep (checkOf i) (onOkOf i) s = t := Host.Outcome.next.inj (exec_eq i s ▸ ht)
    exact commandStep_err_illegal i s he

end Sys2Proof.Machine

/-! # The command engine (41_command_engine.md)

What a write of CMD does (R120, R121), and what an answer with `err` = 1 does to the command in progress
(R124, R125). -/

namespace Sys2Proof.Machine

open Sys2Proof

/-! ## Acceptance and overrun (R120, R121) -/

theorem getLsbD_statusWord_busy (s : State) : (statusWord s).getLsbD 2 = s.busy := by
  simp only [statusWord, BitVec.getLsbD_append, BitVec.getLsbD_ofBool]
  simp

/-- No access but a write of CMD starts a command, under reset or out of it. -/
theorem hostAccess_keeps_command {a : HostAccess} (ha : ∀ w, a ≠ .write 0x00 w) (s : State) :
    (hostAccess a s).phase = s.phase ∧ (hostAccess a s).busy = s.busy ∧ (hostAccess a s).cur = s.cur := by
  cases hr : s.rstN with
  | true =>
    obtain ⟨w, hw, -⟩ | ⟨w, -, h⟩ | ⟨-, -, p, d, o, r, h⟩ := hostAccess_cases hr a
    · exact absurd hw (ha w)
    · simp [h]
    · simp [h]
  | false => cases a <;> simp [hostAccess, hr]

/-- Settles O11: the step is the acceptance of the word, after which STATUS shows the new BUSY; any other
access leaves the command alone. -/
theorem cmdWriteAccepted : Obligations.CmdWriteAccepted := by
  refine ⟨fun s w hr hm hb => ⟨?_, getLsbD_statusWord_busy _⟩, fun s _ ha => hostAccess_keeps_command ha s⟩
  rw [step_host hr hm, hostAccess_writeCmd_accept (s := takeMove s) hr hb]
  rfl

theorem writeCmd_of_busy {s : State} (h : s.busy = true) (w : Word) : writeCmd w s = dropCommand s := by
  simp [writeCmd, h]

theorem hostAccess_writeCmd_drop {s : State} (hr : s.rstN = true) (hb : s.busy = true) (w : Word) :
    hostAccess (.write 0x00 w) s = dropCommand s := by
  rw [hostAccess_write hr]
  exact writeCmd_of_busy hb w

/-- Settles O12: the step is the drop of the word. -/
theorem cmdWriteWhileBusyDropped : Obligations.CmdWriteWhileBusyDropped := by
  intro s w hr hm hb
  rw [step_host hr hm, hostAccess_writeCmd_drop (s := takeMove s) hr hb]
  rfl

/-! ## Answered pin operations (R123 to R126) -/

/-- Whatever the command, its step at a pin operation is that operation's. -/
theorem exec_pinOp {s : State} {e : Event} {tag : Tag} {rest : List (Event × Tag)} (i : Instr)
    (hp : s.phase = .run) (hs : s.seq = (e, tag) :: rest) (he : e.isPinOp = true) :
    exec i s = .next (pinOpStep e tag rest s) := by
  rw [exec_eq, commandStep_event _ _ hp hs, eventStep_pinOp he]

/-- An answer with `err` = 1 retires the operation, stores no level, and is handled by the tag. -/
theorem exec_pinOp_error {s : State} {e : Event} {tag : Tag} {rest : List (Event × Tag)} {lvl : Bool}
    (i : Instr) (hp : s.phase = .run) (hs : s.seq = (e, tag) :: rest) (he : e.isPinOp = true)
    (ha : nextReply s = .answered ⟨lvl, true⟩) :
    exec i s = .next (pinError tag (retire e rest (some ⟨lvl, true⟩) (consumeReply s))) := by
  rw [exec_pinOp i hp hs he, pinOpStep_answered ha]
  rfl

/-- An abort forgets the events that were left: what remains is the safe release of the active pins, which
using up the reply keeps. -/
theorem abort_retire_consumeReply (e : Event) (rest : List (Event × Tag)) (answer : Option PinAnswer)
    (s : State) :
    abort (retire e rest answer (consumeReply s)) = { consumeReply s with
      handshake := .idle, trace := s.trace ++ [⟨e, answer⟩], seq := safeRelease s.actPins s.actDelay
      aborted := true, nextState := .released } := by
  unfold consumeReply
  split <;> rfl

/-- Settles O26: under NORMAL the error is an abort, whose safe release is the twelve events listed. -/
theorem normalErrorAborts : Obligations.NormalErrorAborts := by
  intro s i e rest lvl hp hs he ha
  have habort : exec i s = .next (abort (retire e rest (some ⟨lvl, true⟩) (consumeReply s))) :=
    exec_pinOp_error i hp hs he ha
  rw [habort, abort_retire_consumeReply]
  rfl

/-- Settles O27: under RELEASE the error sets RELERR and the operation is retired like any other. -/
theorem releaseErrorGoesOn : Obligations.ReleaseErrorGoesOn := by
  intro s i e rest lvl hp hs he ha
  have hrelerr : exec i s =
      .next { retire e rest (some ⟨lvl, true⟩) (consumeReply s) with relerr := true } :=
    exec_pinOp_error i hp hs he ha
  rw [hrelerr, retire, consumeReply_trace]

end Sys2Proof.Machine

/-! # Reads (43_transaction.md)

What the completion of a read writes (R170 to R174), and that no other step but reset's changes RESULT (R175). -/

namespace Sys2Proof.Machine

open Sys2Proof

/-! ## Assembled samples (R170, R171) -/

/-- The last position shifted in is bit 0. -/
theorem getLsbD_assemble (sr : BitVec 16) (order : List Nat) {k : Nat} (hk : k < 8) :
    (assemble sr order).getLsbD k = order.reverse[k]?.any sr.getLsbD := by
  induction order using List.reverseRecOn generalizing k with
  | nil => simp [assemble]
  | append_singleton order i ih =>
    have hshift : assemble sr (order ++ [i]) = (assemble sr order).shiftConcat (sr.getLsbD i) := by
      simp [assemble]
    rw [hshift, BitVec.getLsbD_shiftConcat, List.reverse_concat]
    cases k with
    | zero => simp
    | succ k => simp [hk, ih (k := k) (by omega)]

theorem getLsbD_firstSample (sr : BitVec 16) {k : Nat} (hk : k < 8) :
    (firstSample sr).getLsbD (7 - k) = sr.getLsbD k := by
  rw [firstSample, getLsbD_assemble sr _ (by omega)]
  interval_cases k <;> rfl

theorem getLsbD_secondSample (lsbFirst : Bool) (sr : BitVec 16) {k : Nat} (hk : k < 8) :
    (secondSample lsbFirst sr).getLsbD (if lsbFirst then k else 7 - k) = sr.getLsbD (8 + k) := by
  cases lsbFirst with
  | true =>
    show (assemble sr [15, 14, 13, 12, 11, 10, 9, 8]).getLsbD k = _
    rw [getLsbD_assemble sr _ hk]
    interval_cases k <;> rfl
  | false =>
    show (assemble sr [8, 9, 10, 11, 12, 13, 14, 15]).getLsbD (7 - k) = _
    rw [getLsbD_assemble sr _ (by omega)]
    interval_cases k <;> rfl

/-! ## A read's completion (R172 to R174) -/

/-- The validation of the two samples in closed form: equal samples match, others are reconciled by the
policy and set GLITCH. -/
theorem reconcile_eq (kind : Bool) (s : State) :
    reconcile kind s =
      let first := firstSample s.sr
      let second := secondSample s.actOpt.secondLsb s.sr
      { s with
        result :=
          { sample := if first = second then first else if s.actOpt.mismatchZero then 0 else first
            first := first, second := second, matched := decide (first = second)
            kind := kind, valid := true }
        glitch := s.glitch || decide (first ≠ second) } := by
  by_cases h : firstSample s.sr = secondSample s.actOpt.secondLsb s.sr
  · simp [reconcile, compareSamples, matchFlag, reconciledSample, glitchAfter, h]
  · simp [reconcile, compareSamples, matchFlag, reconciledSample, glitchAfter, h]

theorem onOkOf_read {i : Instr} {ch : Nat} (h : i = .read ch ∨ i = .readBoth ch) :
    onOkOf i = reconcile (decide (i = .readBoth ch)) := by
  obtain rfl | rfl := h <;> simp [onOkOf]

/-- Settles O18: the completion adds the reconciliation, whose samples are SR's two assembled bytes. -/
theorem readsCompleteWithResult : Obligations.ReadsCompleteWithResult := by
  intro s ch i hi hp hq ha
  refine ⟨firstSample s.sr, secondSample s.actOpt.secondLsb s.sr, fun k => getLsbD_firstSample s.sr,
    fun k => getLsbD_secondSample s.actOpt.secondLsb s.sr, ?_⟩
  rw [exec_eq, commandStep_unaborted_done _ _ hp hq ha, onOkOf_read hi, reconcile_eq]

/-! ## What keeps RESULT (R175) -/

theorem checkOf_keeps_result (i : Instr) (s : State) : (checkOf i s).result = s.result := by
  have hread (ch : Nat) : (readCheck ch (beginCheck s)).result = s.result := by
    obtain ⟨-, h⟩ | ⟨-, -, h⟩ | ⟨-, -, h⟩ := readCheck_cases ch (beginCheck s) <;> simp [h]
  cases i with
  | setup =>
    obtain ⟨-, h⟩ | ⟨-, -, h⟩ := setupCheck_cases (beginCheck s) <;> simp [checkOf, h]
  | read ch => exact hread ch
  | readBoth ch => exact hread ch
  | teardown => rfl

theorem eventStep_keeps_result (e : Event) (tag : Tag) (rest : List (Event × Tag)) (s : State) :
    (eventStep e tag rest s).result = s.result := by
  obtain ⟨-, h⟩ | ⟨-, ⟨_, -, h⟩ | ⟨a, -, ⟨-, -, h⟩ | ⟨-, -, h⟩ | ⟨-, -, h⟩ | ⟨-, -, h⟩⟩⟩ :=
    eventStep_cases e tag rest s <;> simp [h]

/-- Only an unaborted read's completion writes RESULT. -/
theorem completionStep_result_ne {i : Instr} {s : State}
    (h : (completionStep (onOkOf i) s).result ≠ s.result) :
    s.aborted = false ∧ readsConverter i = true := by
  cases ha : s.aborted with
  | true => simp [completionStep_aborted _ ha] at h
  | false =>
    rw [completionStep_ok _ ha] at h
    cases i with
    | setup => exact absurd rfl h
    | read ch => exact ⟨rfl, rfl⟩
    | readBoth ch => exact ⟨rfl, rfl⟩
    | teardown => exact absurd rfl h

theorem controllerTurn_result_ne {s t : State} (h : controllerTurn s = .next t)
    (hne : t.result ≠ s.result) :
    s.phase = .run ∧ s.seq = [] ∧ s.aborted = false ∧ isReadWord s.cur = true := by
  obtain ⟨-, rfl⟩ | ⟨-, ⟨i, -, rfl⟩ | ⟨_, -, rfl⟩⟩ | ⟨hp, hq, ⟨i, hd, rfl⟩ | ⟨_, -, rfl⟩⟩ |
    ⟨-, e, tag, rest, -, rfl⟩ := controllerTurn_cases h
  · exact absurd rfl hne
  · exact absurd (checkOf_keeps_result i s) hne
  · exact absurd rfl hne
  · obtain ⟨ha, hr⟩ := completionStep_result_ne hne
    exact ⟨hp, hq, ha, (isReadWord_of_decode hd).trans hr⟩
  · exact absurd (completionStep_result_ne (i := .setup) hne).2 Bool.false_ne_true
  · exact absurd (eventStep_keeps_result e tag rest s) hne

theorem hostAccess_keeps_result (a : HostAccess) {s : State} (hr : s.rstN = true) :
    (hostAccess a s).result = s.result := by
  obtain ⟨w, -, h⟩ | ⟨w, -, h⟩ | ⟨-, -, p, d, o, r, h⟩ := hostAccess_cases hr a
  · cases hb : s.busy <;> simp [h, writeCmd, hb]
  · simp [h]
  · simp [h]

/-- Whose step it is where no reset is or comes into force. -/
theorem step_cases_of_not_reset {s t : State} (hn : ¬ ResetMove s) (h : step s = .next t) :
    s.rstN = true ∧
    ((nextMove s = .controller ∧ controllerTurn (takeMove s) = .next t) ∨
     (∃ a, nextMove s = .host a ∧ t = hostAccess a (takeMove s)) ∨
     (nextMove s = .rst true ∧ t = driveReset true (takeMove s)) ∨
     (∃ a n, nextMove s = .strayAnswer a ∧ s.orphans = n + 1 ∧ t = { takeMove s with orphans := n })) := by
  obtain ⟨hr, hm⟩ : s.rstN = true ∧ nextMove s ≠ .rst false := by simpa [ResetMove] using hn
  have hc := step_cases h
  rw [underReset_of_rstN hr] at hc
  obtain hc | ha | ⟨b, hb, rfl⟩ | hs := hc
  · exact ⟨hr, .inl hc⟩
  · exact ⟨hr, .inr (.inl ha)⟩
  · obtain rfl : b = true := by simpa [hb] using hm
    exact ⟨hr, .inr (.inr (.inl ⟨hb, rfl⟩))⟩
  · exact ⟨hr, .inr (.inr (.inr hs))⟩

/-- Settles O46: out of reset only the Controller's turn can change RESULT, and only as above. -/
theorem resultWrittenOnlyByReads : Obligations.ResultWrittenOnlyByReads := by
  intro s t h hne
  refine or_iff_not_imp_left.mpr fun hn => ?_
  obtain ⟨hr, ⟨hm, hc⟩ | ⟨a, -, rfl⟩ | ⟨-, rfl⟩ | ⟨_, n, -, -, rfl⟩⟩ := step_cases_of_not_reset hn h
  · exact ⟨hm, controllerTurn_result_ne (s := takeMove s) hc hne⟩
  · exact absurd (hostAccess_keeps_result a (s := takeMove s) hr) hne
  · exact absurd rfl hne
  · exact absurd rfl hne

end Sys2Proof.Machine

/-! # Writes of the read-only registers (44_register_access.md R194) -/

namespace Sys2Proof.Machine

open Sys2Proof

/-- The offsets of RESULT, ACT_PINS, ACT_DELAY and ACT_OPT. -/
def readOnlyOffsets : List (BitVec 6) := [0x08, 0x18, 0x1C, 0x20]

theorem writeReg_of_readOnly {off : BitVec 6} (h : off ∈ readOnlyOffsets) (w : Word) (s : State) :
    writeReg off w s = s := by
  simp only [readOnlyOffsets, List.mem_cons, List.not_mem_nil, or_false] at h
  rcases h with rfl | rfl | rfl | rfl <;> rfl

/-- Settles O36: such a write is the whole step, and it reaches no register. -/
theorem readOnlyRegistersIgnoreWrites : Obligations.ReadOnlyRegistersIgnoreWrites := by
  intro s off w hoff hr hm
  have hinert : writeReg off w (takeMove s) = takeMove s :=
    hoff.elim (writeReg_of_readOnly · w _) (writeReg_of_unmapped · w _)
  rw [step_host hr hm, hostAccess_write (s := takeMove s) hr, hinert]
  rfl

end Sys2Proof.Machine

/-! # Commands that fail their checks (60_exceptions.md)

What a rejected SETUP (R202) and a rejected read (R203, R204, R210) leave, and which codes the lifecycle commands
can write. -/

namespace Sys2Proof.Machine

open Sys2Proof

/-- In CHECK the step of a command is its check step. -/
theorem exec_check {s : State} (i : Instr) (hp : s.phase = .check) : exec i s = .next (checkOf i s) := by
  rw [exec_eq, commandStep_check _ _ hp]

/-! ## Reads rejected (R203, R204, R210) -/

theorem checkOf_read {i : Instr} {ch : Nat} (h : i = .read ch ∨ i = .readBoth ch) (s : State) :
    checkOf i s = readCheck ch (beginCheck s) := by
  obtain rfl | rfl := h <;> rfl

theorem readCheck_of_not_idle (ch : Nat) {s : State} (h : s.state ≠ .idle) :
    readCheck ch s = raiseError .notInitialized s := if_pos h

theorem readCheck_of_invalidChannel {ch : Nat} {s : State} (h : s.state = .idle) (hch : 2 ≤ ch) :
    readCheck ch s = raiseError .invalidChannel s := by
  simp [readCheck, h, hch]

theorem readCheck_keeps_cmd (ch : Nat) (s : State) : (readCheck ch s).cmd = s.cmd := by
  obtain ⟨-, h⟩ | ⟨-, -, h⟩ | ⟨-, -, h⟩ := readCheck_cases ch s <;> simp [h]

theorem chOperand_eq_div_mod (w : Word) : chOperand w = w.toNat / 256 % 256 := by
  simp [chOperand, chField, Nat.shiftRight_eq_div_pow]

theorem cmdWord_toNat_lt (s : State) : (cmdWord s).toNat < 256 * 256 := by
  rw [cmdWord, commandWord_fields, acceptedWord, BitVec.toNat_and]
  exact Nat.and_le_right.trans_lt (by decide)

/-- CMD reads as the channel operand above its low byte (10_state.md R22, 30_encoding.md R82). -/
theorem cmdWord_toNat_div (s : State) : (cmdWord s).toNat / 256 = chOperand s.cmd := by
  have hch : chOperand (cmdWord s) = chOperand s.cmd := by
    simp [chOperand, cmdWord]
  have hlt : (cmdWord s).toNat / 256 < 256 := Nat.div_lt_of_lt_mul (cmdWord_toNat_lt s)
  rw [← hch, chOperand_eq_div_mod, Nat.mod_eq_of_lt hlt]

theorem chOperand_of_decode_read {w : Word} {i : Instr} {ch : Nat} (h : decode w = .ok i)
    (hi : i = .read ch ∨ i = .readBoth ch) : chOperand w = ch := by
  unfold decode at h
  obtain rfl | rfl := hi
  · split at h <;> cases h
    rfl
  · split at h <;> cases h
    rfl

/-! ## The codes a step can write -/

/-- A command's step keeps ERR, is its check step, or is the completion, which writes OK or BUS_ERROR. -/
theorem commandStep_err_cases (c o : State → State) (s : State) :
    (commandStep c o s).err = s.err ∨ (s.phase = .check ∧ commandStep c o s = c s) ∨
    (s.phase = .run ∧ s.seq = [] ∧ (commandStep c o s).err = if s.aborted then .busError else .ok) := by
  cases hp : s.phase with
  | none => exact .inl (by rw [commandStep_none _ _ hp])
  | check => exact .inr (.inl ⟨rfl, commandStep_check _ _ hp⟩)
  | run =>
    cases hq : s.seq with
    | nil => exact .inr (.inr ⟨rfl, rfl, by rw [commandStep_done _ _ hp hq, completionStep_err]⟩)
    | cons x rest => exact .inl (by rw [commandStep_event _ _ hp hq, eventStep_keeps_err])

/-- The one code that the check step of SETUP or TEARDOWN can raise. -/
theorem checkOf_lifecycle_err {i : Instr} (hi : i = .setup ∨ i = .teardown) (s : State) :
    (checkOf i s).err = s.err ∨ (checkOf i s).err = .configurationError := by
  obtain rfl | rfl := hi
  · obtain ⟨-, h⟩ | ⟨-, -, h⟩ := setupCheck_cases (beginCheck s) <;> simp [checkOf, h]
  · exact .inl rfl

/-- A step of SETUP or TEARDOWN that ends in NOT_INITIALIZED only keeps it. -/
theorem commandStep_lifecycle_notInitialized {i : Instr} (hi : i = .setup ∨ i = .teardown) {s : State}
    (h : (commandStep (checkOf i) (onOkOf i) s).err = .notInitialized) : s.err = .notInitialized := by
  obtain he | ⟨-, he⟩ | ⟨-, -, he⟩ := commandStep_err_cases (checkOf i) (onOkOf i) s
  · exact he.symm.trans h
  · rw [he] at h
    obtain hk | hc := checkOf_lifecycle_err hi s
    · exact hk.symm.trans h
    · exact absurd (hc.symm.trans h) (by decide)
  · rw [he] at h
    split at h <;> contradiction

/-- Settles O17: the read's check is STATE's before the channel's and never touches CMD; the lifecycle commands
raise CONFIGURATION_ERROR alone. -/
theorem readsRejected : Obligations.ReadsRejected := by
  refine ⟨fun s ch i hi hp => ?_, fun s t i hi ht hne he => ?_⟩
  · rw [exec_check i hp, checkOf_read hi]
    refine ⟨fun hs => ?_, fun hs hch => ?_, fun hd t ht => ?_⟩
    · rw [readCheck_of_not_idle ch (s := beginCheck s) hs]
      rfl
    · rw [readCheck_of_invalidChannel (s := beginCheck s) hs hch]
      rfl
    · obtain rfl := Host.Outcome.next.inj ht
      have hcmd : (readCheck ch (beginCheck s)).cmd = s.cmd := readCheck_keeps_cmd ch (beginCheck s)
      exact (cmdWord_toNat_div _).trans (hcmd ▸ chOperand_of_decode_read hd hi)
  · obtain rfl : commandStep (checkOf i) (onOkOf i) s = t := Host.Outcome.next.inj (exec_eq i s ▸ ht)
    exact hne (he.trans (commandStep_lifecycle_notInitialized hi he).symm)

/-! ## SETUP rejected (R202) -/

theorem Pins.distinct_eq_false_iff (p : Pins) :
    p.distinct = false ↔ p.cs = p.clk ∨ p.cs = p.dio ∨ p.clk = p.dio := by
  simp [Pins.distinct, or_iff_not_imp_left]

theorem pinsValid_eq_false_iff (p : Pins) (s : State) :
    pinsValid p s = false ↔
      p.csPin ∈ s.invalidPins ∨ p.clkPin ∈ s.invalidPins ∨ p.dioPin ∈ s.invalidPins := by
  simp [pinsValid, pinValid, or_iff_not_imp_left]

theorem setupCheck_of_badPins {s : State}
    (h : s.cfgPins.distinct = false ∨ pinsValid s.cfgPins s = false) :
    setupCheck s = raiseError .configurationError s := by
  obtain ⟨-, hc⟩ | ⟨hd, hv, -⟩ := setupCheck_cases s
  · exact hc
  · simp [hd, hv] at h

/-- Settles O15: both tests of SETUP's check end in the same error completion, which keeps CFG_PINS. -/
theorem setupRejectsBadPins : Obligations.SetupRejectsBadPins := by
  intro s hp hbad
  have hrejects : s.cfgPins.distinct = false ∨ pinsValid s.cfgPins s = false := by
    rw [Pins.distinct_eq_false_iff, pinsValid_eq_false_iff]
    simpa only [or_assoc] using hbad
  have hcheck : checkOf .setup s = raiseError .configurationError (beginCheck s) :=
    setupCheck_of_badPins (s := beginCheck s) hrejects
  exact ⟨_, (exec_check .setup hp).trans (congrArg _ hcheck), rfl, rfl⟩

end Sys2Proof.Machine

/-! # Under reset (70_reset_and_hazards.md R230) -/

namespace Sys2Proof.Machine

open Sys2Proof

/-- The fields that a reset keeps are in no register: every read finds the reset table (10_state.md R43). -/
@[simp] theorem readReg_hardReset (off : BitVec 6) (s : State) :
    readReg off (hardReset s) = readReg off State.reset := rfl

@[simp] theorem readReg_takeMove (off : BitVec 6) (s : State) : readReg off (takeMove s) = readReg off s := rfl

@[simp] theorem readReg_driveReset_true (off : BitVec 6) (s : State) :
    readReg off (driveReset true s) = readReg off s := rfl

theorem hostAccess_write_under_reset {s : State} (hr : s.rstN = false) (off : BitVec 6) (w : Word) :
    hostAccess (.write off w) s = s := by
  simp [hostAccess, hr]

/-- Between commands the Controller's turn changes nothing (60_exceptions.md R221). -/
theorem controllerTurn_of_idle {s : State} (hp : s.phase = .none) : controllerTurn s = .next s := by
  have hturn := controllerTurn_eq s
  rwa [controllerTurn_idle hp hturn] at hturn

/-! ## The steps from a state held in reset -/

theorem step_hostRead_under_reset {s : State} {off : BitVec 6} (hr : s.rstN = false)
    (hm : nextMove s = .host (.read off)) :
    step s = .next { takeMove (hardReset s) with rdata := readReg off State.reset } := by
  rw [step_under_reset hr, hm, performMove, hostAccess, readReg_takeMove, readReg_hardReset]

theorem step_hostWrite_under_reset {s : State} {off : BitVec 6} {w : Word} (hr : s.rstN = false)
    (hm : nextMove s = .host (.write off w)) : step s = .next (takeMove (hardReset s)) := by
  rw [step_under_reset hr, hm, performMove, hostAccess_write_under_reset (s := takeMove (hardReset s)) hr]

theorem step_controller_under_reset {s : State} (hr : s.rstN = false) (hm : nextMove s = .controller) :
    step s = .next (takeMove (hardReset s)) := by
  rw [step_under_reset hr, hm, performMove, controllerTurn_of_idle (s := takeMove (hardReset s)) rfl]

/-- Releasing reset changes `rst_ni` alone: the block comes out with its reset values. -/
theorem step_release_under_reset {s : State} (hr : s.rstN = false) (hm : nextMove s = .rst true) :
    step s = .next (driveReset true (takeMove (hardReset s))) := by
  rw [step_under_reset hr, hm, performMove]

/-- Settles O42: under reset every move starts from the reset values, no write reaches a register and the
Controller is idle; the released block is out of reset and not busy, so it accepts a command. -/
theorem heldInReset : Obligations.HeldInReset := by
  intro s hr
  refine ⟨fun off hm => step_hostRead_under_reset hr hm, fun off w hm => step_hostWrite_under_reset hr hm,
    fun hm => step_controller_under_reset hr hm, fun hm => ?_⟩
  refine ⟨_, step_release_under_reset hr hm, rfl, rfl, rfl, rfl, fun off => ?_, fun w => ?_⟩
  · rw [readReg_driveReset_true, readReg_takeMove, readReg_hardReset]
  · rw [hostAccess_writeCmd_accept rfl rfl, accept_phase]

end Sys2Proof.Machine

/-! # Decoding and encoding (30_encoding.md R80 to R85, R92) -/

namespace Sys2Proof.Machine

open Sys2Proof

/-! ## The opcode map (R81) -/

theorem decode_of_opField_setup {w : Word} (h : opField w = 0x1) : decode w = .ok .setup := by
  simp [decode, h]

theorem decode_of_opField_read {w : Word} (h : opField w = 0x2) : decode w = .ok (.read (chOperand w)) := by
  simp [decode, h]

theorem decode_of_opField_readBoth {w : Word} (h : opField w = 0x3) :
    decode w = .ok (.readBoth (chOperand w)) := by
  simp [decode, h]

theorem decode_of_opField_teardown {w : Word} (h : opField w = 0x4) : decode w = .ok .teardown := by
  simp [decode, h]

/-- What a word that decodes to a command can be: one of the four OPs, with the channel of a read. -/
theorem decode_cases {w : Word} {i : Instr} (h : decode w = .ok i) :
    (i = .setup ∧ opField w = 0x1) ∨ (i = .read (chOperand w) ∧ opField w = 0x2) ∨
    (i = .readBoth (chOperand w) ∧ opField w = 0x3) ∨ (i = .teardown ∧ opField w = 0x4) := by
  unfold decode at h
  split at h <;> cases h <;> simp [*]

theorem opField_of_decode {w : Word} {i : Instr} (h : decode w = .ok i) : opField w = Laws.EncodedForm.opOf i := by
  obtain ⟨rfl, ho⟩ | ⟨rfl, ho⟩ | ⟨rfl, ho⟩ | ⟨rfl, ho⟩ := decode_cases h <;> exact ho

theorem opField_eq_iff (w : Word) (op : BitVec 4) : opField w = op ↔ w.toNat % 16 = op.toNat := by
  rw [← opField_toNat, BitVec.toNat_inj]

/-- Settles O3: OP is the word modulo 16, and the assigned OPs decode by their rows of the map. -/
theorem opcodeMap : Obligations.OpcodeMap := by
  intro w
  rw [← chOperand_eq_div_mod]
  refine ⟨fun h => decode_of_opField_setup ((opField_eq_iff w _).mpr h),
    fun h => decode_of_opField_read ((opField_eq_iff w _).mpr h),
    fun h => decode_of_opField_readBoth ((opField_eq_iff w _).mpr h),
    fun h => decode_of_opField_teardown ((opField_eq_iff w _).mpr h),
    fun h => decode_of_unassigned (mt (opField_mem_assigned_iff w).mp ?_)⟩
  simp only [List.mem_cons, List.not_mem_nil, or_false]
  omega

/-! ## Round trips -/

/-- The four lanes of a word make the word again (20_memory.md R64). -/
theorem wordOfBytes_byteLanes (w : Word) :
    wordOfBytes (byteLane w 0) (byteLane w 1) (byteLane w 2) (byteLane w 3) = w := by
  show w.extractLsb' 24 8 ++ w.extractLsb' 16 8 ++ w.extractLsb' 8 8 ++ w.extractLsb' 0 8 = w
  rw [BitVec.extractLsb'_append_extractLsb'_eq_extractLsb' (start₂ := 24) (len₁ := 8) rfl,
    BitVec.extractLsb'_append_extractLsb'_eq_extractLsb' (start₂ := 16) (len₁ := 8) rfl,
    BitVec.extractLsb'_append_extractLsb'_eq_extractLsb' (start₂ := 8) (len₁ := 8) rfl]
  exact BitVec.extractLsb'_eq_self

theorem decodeBytes_wordBytes_append {w : Word} {i : Instr} (h : decode w = .ok i) (rest : List Byte) :
    decodeBytes (wordBytes w ++ rest) = .ok (i, rest) := by
  simp [decodeBytes, wordBytes, wordOfBytes_byteLanes, h]

theorem ofNat_chOperand (w : Word) : BitVec.ofNat 8 (chOperand w) = chField w :=
  BitVec.ofNat_toNat 8 (chField w) |>.trans (BitVec.setWidth_eq _)

theorem chOperand_commandWord {ch : Nat} (h : ch < 256) (op : BitVec 4) :
    chOperand (commandWord (BitVec.ofNat 8 ch) op) = ch := by
  simpa [chOperand] using h

theorem decode_encode {i : Instr} (h : i.WellFormed) : decode (encode i) = .ok i := by
  cases i with
  | setup => exact decode_of_opField_setup (opField_commandWord _ _)
  | read ch =>
    have hch : ch < 256 := of_decide_eq_true h
    rw [encode, decode_of_opField_read (opField_commandWord _ _), chOperand_commandWord hch]
  | readBoth ch =>
    have hch : ch < 256 := of_decide_eq_true h
    rw [encode, decode_of_opField_readBoth (opField_commandWord _ _), chOperand_commandWord hch]
  | teardown => exact decode_of_opField_teardown (opField_commandWord _ _)

/-- Settles O1: each command's word holds its OP and its channel, and the lanes of the word are the word. -/
theorem decodeEncodeRoundTrip : Obligations.DecodeEncodeRoundTrip := fun _ rest h =>
  ⟨decode_encode h, decodeBytes_wordBytes_append (decode_encode h) rest⟩

/-- Under the mask of OP alone the channel field is 0. -/
theorem commandWord_zero_opField (w : Word) : commandWord 0 (opField w) = w &&& 0x0000000F#32 := by
  have hmask : (0x0000000F#32).extractLsb' 8 8 = 0#8 := by decide
  have hch : chField (w &&& 0x0000000F#32) = 0 := by
    rw [chField, BitVec.extractLsb'_and, hmask]
    exact BitVec.and_zero
  rw [← opField_and_opMask, ← hch, commandWord_fields, acceptedWord, BitVec.and_assoc]
  rfl

theorem wellFormed_of_decode {w : Word} {i : Instr} (h : decode w = .ok i) : i.WellFormed := by
  have hch : chOperand w < 256 := (chField w).isLt
  obtain ⟨rfl, -⟩ | ⟨rfl, -⟩ | ⟨rfl, -⟩ | ⟨rfl, -⟩ := decode_cases h
  · rfl
  · exact decide_eq_true hch
  · exact decide_eq_true hch
  · rfl

theorem encode_of_decode {w : Word} {i : Instr} (h : decode w = .ok i) :
    encode i = w &&& (if isReadWord w then 0x0000FF0F#32 else 0x0000000F#32) := by
  rw [isReadWord_of_decode h]
  obtain ⟨rfl, ho⟩ | ⟨rfl, ho⟩ | ⟨rfl, ho⟩ | ⟨rfl, ho⟩ := decode_cases h
  · rw [encode, ← ho]
    exact commandWord_zero_opField w
  · rw [encode, ofNat_chOperand, ← ho]
    exact commandWord_fields w
  · rw [encode, ofNat_chOperand, ← ho]
    exact commandWord_fields w
  · rw [encode, ← ho]
    exact commandWord_zero_opField w

/-- Settles O2: a read's word keeps both its fields, the other commands' words keep OP. -/
theorem encodeDecodeCanonical : Obligations.EncodeDecodeCanonical := fun _ _ h =>
  ⟨wellFormed_of_decode h, encode_of_decode h⟩

/-- Settles O5: each row of the table, encoded and decoded by evaluation. -/
theorem specExampleWords : Obligations.SpecExampleWords := by
  unfold Obligations.SpecExampleWords
  decide

end Sys2Proof.Machine

/-! # The event lists the block builds (40_interfaces.md, 42_lifecycle.md, 43_transaction.md)

Their pacing (R109), the counts and the operations of a transaction (R162 to R169, R176, R177), and what the Pin
Controller's contract says of the pins after each of them (R103). -/

namespace Sys2Proof.Machine

open Sys2Proof

/-! ## Pacing (R109) -/

/-- Settles O21: list by list, each event beside its successor. -/
theorem sequencesArePaced : Obligations.SequencesArePaced :=
  fun _ _ _ _ _ => ⟨rfl, rfl, rfl, rfl⟩

theorem map_fst_tagged (t : Tag) (l : List Event) : (tagged t l).map Prod.fst = l := by
  rw [tagged, List.map_map]
  exact List.map_id l

/-! ## Distinct pins -/

theorem Pins.distinct_iff (a : Pins) :
    a.distinct = true ↔ a.csPin ≠ a.clkPin ∧ a.csPin ≠ a.dioPin ∧ a.clkPin ≠ a.dioPin := by
  simp [Pins.distinct, Pins.csPin, Pins.clkPin, Pins.dioPin, and_assoc]

/-! ## Counts over a transaction (R176, R177) -/

/-- What a transaction is made of, as a count of any kind of event. -/
theorem countP_transactionEvents (p : Event → Bool) (ch : Nat) (a : Pins) (d : Word) :
    (transactionEvents ch a d).countP p =
      (selectEvents a d).countP p + 2 * (sendBit a d true).countP p +
      (sendBit a d (channelBit ch)).countP p + (withDelay d (.cfgIn a.dioPin)).countP p +
      16 * (sampleEvents a d).countP p + (clockPulse a d).countP p + (deselectEvents a d).countP p := by
  simp only [transactionEvents, controlWord, sampleByte, List.countP_append, List.flatMap_cons,
    List.flatMap_nil, List.countP_nil, List.countP_flatten, List.map_replicate, List.sum_replicate,
    smul_eq_mul]
  ring

theorem length_filter_transactionEvents (p : Event → Bool) (ch : Nat) (a : Pins) (d : Word) :
    ((transactionEvents ch a d).filter p).length = (transactionEvents ch a d).countP p :=
  List.countP_eq_length_filter.symm

theorem length_transactionEvents (ch : Nat) (a : Pins) (d : Word) :
    (transactionEvents ch a d).length = 112 := by
  rw [← List.countP_true, countP_transactionEvents]
  rfl

theorem length_pinOps_transactionEvents (ch : Nat) (a : Pins) (d : Word) :
    (pinOps (transactionEvents ch a d)).length = 64 := by
  rw [pinOps, length_filter_transactionEvents, countP_transactionEvents]
  rfl

theorem length_readOps_transactionEvents (ch : Nat) (a : Pins) (d : Word) :
    (readOps (transactionEvents ch a d)).length = 16 := by
  rw [readOps, length_filter_transactionEvents, countP_transactionEvents]
  rfl

theorem minNanos_append (l m : List Event) : minNanos (l ++ m) = minNanos l + minNanos m := by
  simp [minNanos]

theorem minNanos_flatten (ls : List (List Event)) : minNanos ls.flatten = (ls.map minNanos).sum := by
  rw [minNanos, List.map_flatten, List.sum_flatten, List.map_map]
  rfl

theorem length_delays_transactionEvents (ch : Nat) (a : Pins) (d : Word) :
    ((transactionEvents ch a d).filter (fun e => decide (e = .delay d))).length = 48 := by
  rw [length_filter_transactionEvents, countP_transactionEvents]
  simp [selectEvents, sendBit, clockPulse, sampleEvents, deselectEvents, withDelay]

theorem length_risingEdges_transactionEvents {a : Pins} (h : a.distinct = true) (ch : Nat) (d : Word) :
    ((transactionEvents ch a d).filter (fun e => decide (e = .write a.clkPin true))).length = 20 := by
  obtain ⟨hcc, -, hkd⟩ := a.distinct_iff.mp h
  rw [length_filter_transactionEvents, countP_transactionEvents]
  simp [selectEvents, sendBit, clockPulse, sampleEvents, deselectEvents, withDelay, hcc, hkd.symm]

theorem length_cfgIn_transactionEvents (ch : Nat) (a : Pins) (d : Word) :
    ((transactionEvents ch a d).filter (fun e => decide (e = .cfgIn a.dioPin))).length = 1 := by
  rw [length_filter_transactionEvents, countP_transactionEvents]
  simp [selectEvents, sendBit, clockPulse, sampleEvents, deselectEvents, withDelay]

/-- Only the 48 delays take time, each the delay. -/
theorem minNanos_transactionEvents (ch : Nat) (a : Pins) (d : Word) :
    minNanos (transactionEvents ch a d) = 48 * d.toNat := by
  simp only [transactionEvents, controlWord, sampleByte, selectEvents, sendBit, clockPulse, sampleEvents,
    deselectEvents, withDelay, minNanos_append, minNanos_flatten, List.map_replicate, List.sum_replicate,
    smul_eq_mul, List.flatMap_cons, List.flatMap_nil]
  simp only [minNanos, Event.minNanos, List.map_cons, List.map_nil, List.sum_cons, List.sum_nil]
  omega

/-! ## The operations of a transaction in order (R163 to R169) -/

/-- One clocked Read without its delays (R166). -/
def sampleOps (a : Pins) : List Event := [.write a.clkPin true, .read a.dioPin, .write a.clkPin false]

/-- Select and the control bits, up to the handover of the data pin (R163 to R165). -/
def addressOps (ch : Nat) (a : Pins) : List Event :=
  [.write a.csPin false, .write a.clkPin false,
   .write a.dioPin true, .write a.clkPin true, .write a.clkPin false,
   .write a.dioPin true, .write a.clkPin true, .write a.clkPin false,
   .write a.dioPin (decide (ch = 1)), .write a.clkPin true, .write a.clkPin false,
   .cfgIn a.dioPin]

theorem pinOps_transactionEvents (ch : Nat) (a : Pins) (d : Word) :
    pinOps (transactionEvents ch a d) =
      addressOps ch a ++ (List.replicate 8 (sampleOps a)).flatten ++
      [.write a.clkPin true, .write a.clkPin false] ++ (List.replicate 8 (sampleOps a)).flatten ++
      [.cfgOut a.dioPin false, .write a.csPin true] := rfl

/-- Settles O20: the counts add up over the parts of the transaction, and its operations are the parts'
operations one after the other. -/
theorem transactionCounts : Obligations.TransactionCounts := by
  intro ch a d hdistinct _ l
  have hops : pinOps l = _ := pinOps_transactionEvents ch a d
  refine ⟨length_transactionEvents ch a d, length_pinOps_transactionEvents ch a d,
    length_readOps_transactionEvents ch a d, length_delays_transactionEvents ch a d,
    minNanos_transactionEvents ch a d, length_risingEdges_transactionEvents hdistinct ch d,
    length_cfgIn_transactionEvents ch a d, ?_, ?_, ?_, ?_, fun k hk => ?_, ?_, fun k hk => ?_, ?_⟩ <;>
    rw [hops]
  iterate 4 rfl
  · interval_cases k <;> rfl
  · rfl
  · interval_cases k <;> rfl
  · rfl

/-! ## The pins after a sequence, under the contract (R103) -/

/-- The view of a pin after an event that succeeded. -/
def PinView.afterSuccess (p : PinId) (v : PinView) (e : Event) : PinView :=
  match e with
  | .cfgOut q l => if q = p then .output l else v
  | .cfgIn q => if q = p then .input else v
  | .write q l => if q = p then .output l else v
  | .read _ => v
  | .release q => if q = p then .released else v
  | .delay _ => v

theorem PinView.after_of_succeeded {t : TraceEntry} (h : t.succeeded = true) (p : PinId) (v : PinView) :
    v.after p t = v.afterSuccess p t.event := by
  obtain ⟨e, answer⟩ := t
  cases e <;> simp [PinView.after, PinView.afterSuccess, h]

/-- After a successful trace the view follows from its events alone. -/
theorem pinView_append_of_succeeded {trace : List TraceEntry} (h : ∀ t ∈ trace, t.succeeded = true)
    (p : PinId) (before : List TraceEntry) :
    pinView p (before ++ trace) =
      (trace.map TraceEntry.event).foldl (PinView.afterSuccess p) (pinView p before) := by
  rw [pinView, List.foldl_append, List.foldl_map]
  exact List.foldl_ext _ _ _ fun v t ht => PinView.after_of_succeeded (h t ht) p v

/-- A transaction's last Read and its deselection, which alone decide what it leaves (R168, R169). -/
theorem transactionEvents_eq_append (ch : Nat) (a : Pins) (d : Word) :
    transactionEvents ch a d =
      (transactionEvents ch a d).take 103 ++ (sampleEvents a d ++ deselectEvents a d) :=
  (List.take_append_drop 103 _).symm

/-- Settles O58: the last event of the sequence on each pin decides the pin's view. -/
theorem contractPinLevels : Obligations.ContractPinLevels := by
  intro a d before trace hdistinct hsucceeded
  obtain ⟨hcc, hcd, hkd⟩ := a.distinct_iff.mp hdistinct
  have hview (p : PinId) := pinView_append_of_succeeded hsucceeded p before
  refine ⟨fun h => ?_, fun ch h => ?_, fun h => ?_⟩
  · simp [hview, h, configureEvents, withDelay, PinView.afterSuccess, hcc, hcc.symm, hcd, hcd.symm, hkd,
      hkd.symm]
  · rw [transactionEvents_eq_append] at h
    simp [hview, h, sampleEvents, deselectEvents, withDelay, PinView.afterSuccess, hcc, hcd, hkd.symm]
  · simp [hview, h, safeReleaseEvents, withDelay, PinView.afterSuccess, hcc, hcc.symm, hcd, hcd.symm, hkd,
      hkd.symm]

end Sys2Proof.Machine

/-! # The machine invariant

`Inv` holds of every reset state and is kept by every step: by each agent's move out of reset, and under reset
since every move leaves the reset values. -/

namespace Sys2Proof.Machine

open Sys2Proof

/-! ## Reset (70_reset_and_hazards.md R230) -/

/-- A step that is or comes under reset leaves the reset values, and in the closed trace what the event trace
was. -/
theorem reset_of_resetMove {s t : State} (hr : ResetMove s) (h : step s = .next t) :
    hardReset t = t ∧ t.trace = eventTrace s := by
  cases hn : s.rstN with
  | true =>
    have hm : nextMove s = .rst false := by simpa [ResetMove, hn] using hr
    obtain rfl := Host.Outcome.next.inj ((step_rst hn hm).symm.trans h)
    exact ⟨hardReset_hardReset _, rfl⟩
  | false =>
    have hheld : hardReset (takeMove (hardReset s)) = takeMove (hardReset s) :=
      congrArg takeMove (hardReset_hardReset s)
    have hc := step_cases h
    rw [underReset_of_not_rstN hn] at hc
    obtain ⟨-, hc⟩ | ⟨a, -, rfl⟩ | ⟨b, -, rfl⟩ | ⟨_, n, -, -, rfl⟩ := hc
    · rw [controllerTurn_idle rfl hc]
      exact ⟨hheld, rfl⟩
    · cases a with
      | read off =>
        exact ⟨congrArg (fun u => { u with rdata := readReg off (takeMove (hardReset s)) }) hheld, rfl⟩
      | write off w =>
        rw [hostAccess_write_under_reset (s := takeMove (hardReset s)) hn]
        exact ⟨hheld, rfl⟩
    · cases b with
      | true => exact ⟨congrArg (fun u => { u with rstN := true }) hheld, rfl⟩
      | false => exact ⟨hardReset_hardReset _, eventTrace_hardReset s⟩
    · exact ⟨congrArg (fun u => { u with orphans := n }) hheld, rfl⟩

theorem inv_hardReset (s : State) : Inv (hardReset s) where
  busy_iff := by simp [State.reset]
  cur_eq := rfl
  cmd_clean := by simp [State.reset, acceptedWord]
  seq_run _ := rfl
  run_assigned := nofun
  waiting h := absurd rfl h
  transaction_iff := by simp [State.reset]
  next_state := nofun
  aborted_run := nofun
  release_reads := nofun
  teardown_run := nofun
  nread_le := Nat.zero_le 16
  nread_reads := nofun
  pins_distinct := by simp [State.reset]
  seq_paced := rfl
  result_valid := nofun
  under_reset _ := hardReset_hardReset s

theorem inv_of_hardReset_eq {s : State} (h : hardReset s = s) : Inv s := h ▸ inv_hardReset s

/-- Settles O44: the reset state is one with the reset values. -/
theorem invariantAtReset : Obligations.InvariantAtReset := inv_of_hardReset_eq rfl

/-! ## Outside RUN -/

/-- What the invariant says of a state out of reset with no command in RUN. -/
structure Inv.AtRest (s : State) : Prop where
  busy_iff : s.busy = true ↔ s.phase ≠ .none
  cur_eq : s.cur = s.cmd
  cmd_clean : acceptedWord s.cmd = s.cmd
  seq_nil : s.seq = []
  handshake_idle : s.handshake = .idle
  not_inTransaction : s.state ≠ .inTransaction
  nread_le : s.nread ≤ 16
  pins_distinct : s.state = .idle → s.actPins.distinct = true
  result_valid : s.result.valid = true →
    (s.result.matched = true ↔ s.result.first = s.result.second) ∧
    (s.result.sample = s.result.first ∨ (s.result.matched = false ∧ s.result.sample = 0))

theorem Inv.handshake_idle_of_not_run {s : State} (h : Inv s) (hp : s.phase ≠ .run) : s.handshake = .idle :=
  by_contra fun hh => hp (h.waiting hh).1

theorem Inv.handshake_idle_of_seq_nil {s : State} (h : Inv s) (hq : s.seq = []) : s.handshake = .idle :=
  by_contra fun hh => by
    obtain ⟨-, e, tag, rest, hq', -⟩ := h.waiting hh
    simp [hq] at hq'

theorem Inv.atRest {s : State} (h : Inv s) (hp : s.phase ≠ .run) : Inv.AtRest s where
  busy_iff := h.busy_iff
  cur_eq := h.cur_eq
  cmd_clean := h.cmd_clean
  seq_nil := h.seq_run hp
  handshake_idle := h.handshake_idle_of_not_run hp
  not_inTransaction hs := hp (h.transaction_iff.mp hs).1
  nread_le := h.nread_le
  pins_distinct hs := h.pins_distinct (.inl hs)
  result_valid := h.result_valid

theorem Inv.AtRest.inv {s : State} (h : Inv.AtRest s) (hp : s.phase ≠ .run) (hr : s.rstN = true) : Inv s where
  busy_iff := h.busy_iff
  cur_eq := h.cur_eq
  cmd_clean := h.cmd_clean
  seq_run _ := h.seq_nil
  run_assigned hrun := absurd hrun hp
  waiting hh := absurd h.handshake_idle hh
  transaction_iff := by simp [hp, h.not_inTransaction]
  next_state hrun := absurd hrun hp
  aborted_run hrun := absurd hrun hp
  release_reads := by simp [h.seq_nil]
  teardown_run hrun := absurd hrun hp
  nread_le := h.nread_le
  nread_reads hrun := absurd hrun hp
  pins_distinct hs := h.pins_distinct (by simpa [hp, h.not_inTransaction] using hs)
  seq_paced := by simp [h.seq_nil, paced]
  result_valid := h.result_valid
  under_reset hn := by simp [hr] at hn

/-! ## Moves that touch no command -/

theorem Inv.after_takeMove {s : State} (h : Inv s) (hr : s.rstN = true) : Inv (takeMove s) :=
  { h with under_reset := by simp [hr] }

theorem Inv.after_consumeReply {s : State} (h : Inv s) (hr : s.rstN = true) : Inv (consumeReply s) := by
  unfold consumeReply
  split <;> exact { h with under_reset := by simp [hr] }

theorem Inv.after_hostAccess {s : State} (h : Inv s) (hr : s.rstN = true) (a : HostAccess) :
    Inv (hostAccess a s) := by
  obtain ⟨w, -, hw⟩ | ⟨w, -, hw⟩ | ⟨-, -, p, d, o, r, hw⟩ := hostAccess_cases hr a <;> rw [hw]
  · cases hb : s.busy with
    | true =>
      rw [writeCmd_of_busy hb]
      exact { h with under_reset := by simp [hr] }
    | false =>
      rw [writeCmd_of_not_busy hb]
      have hp : s.phase = .none := by simpa [hb] using h.busy_iff
      have hrest : Inv.AtRest s := h.atRest (by simp [hp])
      exact Inv.AtRest.inv { hrest with
        busy_iff := by simp, cur_eq := rfl, cmd_clean := acceptedWord_idem w } nofun hr
  · exact { h with under_reset := by simp [hr] }
  · exact { h with under_reset := by simp [hr] }

/-! ## The check step -/

/-- A check that fails ends the command with nothing else changed. -/
theorem Inv.after_raiseError {s : State} (h : Inv s) (hr : s.rstN = true) (hp : s.phase = .check) (c : ErrCode) :
    Inv (raiseError c s) :=
  have hrest : Inv.AtRest s := h.atRest (by simp [hp])
  Inv.AtRest.inv { hrest with busy_iff := by simp } nofun hr

theorem Inv.after_beginCheck {s : State} (h : Inv s) (hr : s.rstN = true) (hp : s.phase = .check) :
    Inv (beginCheck s) :=
  have hrest : Inv.AtRest s := h.atRest (by simp [hp])
  Inv.AtRest.inv { hrest with } (by simp [hp]) hr

theorem mem_safeRelease {a : Pins} {d : Word} {x : Event × Tag} (h : x ∈ safeRelease a d) :
    x.2 = .release ∧ x.1.isRead = false := by
  simp only [safeRelease, safeReleaseEvents, withDelay, tagged, List.cons_append, List.nil_append,
    List.map_cons, List.map_nil, List.mem_cons, List.not_mem_nil, or_false] at h
  rcases h with rfl | rfl | rfl | rfl | rfl | rfl | rfl | rfl | rfl | rfl | rfl | rfl <;> exact ⟨rfl, rfl⟩

theorem mem_configure_isRead {a : Pins} {d : Word} {x : Event × Tag} (h : x ∈ configure a d) :
    x.1.isRead = false := by
  simp only [configure, configureEvents, withDelay, tagged, List.cons_append, List.nil_append,
    List.map_cons, List.map_nil, List.mem_cons, List.not_mem_nil, or_false] at h
  rcases h with rfl | rfl | rfl | rfl | rfl | rfl <;> rfl

theorem mem_transaction_tag {ch : Nat} {a : Pins} {d : Word} {x : Event × Tag}
    (h : x ∈ transaction ch a d) : x.2 = .normal := by
  obtain ⟨e, -, rfl⟩ := List.mem_map.mp h
  rfl

theorem readsLeft_transaction (ch : Nat) (a : Pins) (d : Word) : readsLeft (transaction ch a d) = 16 := by
  rw [readsLeft, transaction, map_fst_tagged, length_readOps_transactionEvents]

theorem paced_safeRelease (a : Pins) (d : Word) : paced ((safeRelease a d).map Prod.fst) = true := rfl

theorem paced_transaction (ch : Nat) (a : Pins) (d : Word) :
    paced ((transaction ch a d).map Prod.fst) = true := by
  rw [transaction, map_fst_tagged]
  exact (sequencesArePaced ch a a d d).2.2.2

/-- The events of a SETUP, from IDLE or not, are paced and hold no Read (42_lifecycle.md R142, R143). -/
theorem setupEvents_paced (s : State) (a : Pins) (d : Word) :
    paced ((setupPrelude s ++ configure a d).map Prod.fst) = true := by
  unfold setupPrelude
  split <;> rfl

theorem mem_setupEvents_isRead {s : State} {a : Pins} {d : Word} {x : Event × Tag}
    (h : x ∈ setupPrelude s ++ configure a d) : x.1.isRead = false := by
  obtain hx | hx := List.mem_append.mp h
  · unfold setupPrelude at hx
    split at hx
    · exact (mem_safeRelease hx).2
    · cases hx
  · exact mem_configure_isRead hx

theorem Inv.after_setupCheck {s : State} (h : Inv s) (hr : s.rstN = true) (hp : s.phase = .check)
    (hd : decode s.cur = .ok .setup) (ha : s.aborted = false) : Inv (setupCheck s) := by
  have hop : opField s.cur = 0x1 := opField_of_decode hd
  have hread : isReadWord s.cur = false := isReadWord_of_decode hd
  have hrest : Inv.AtRest s := h.atRest (by simp [hp])
  obtain ⟨-, hc⟩ | ⟨hdist, -, hc⟩ := setupCheck_cases s <;> rw [hc]
  · exact h.after_raiseError hr hp _
  · exact {
      busy_iff := by simp [hrest.busy_iff, hp]
      cur_eq := h.cur_eq
      cmd_clean := h.cmd_clean
      seq_run := nofun
      run_assigned := fun _ => ⟨_, hd⟩
      waiting := fun hh => absurd hrest.handshake_idle hh
      transaction_iff := by simp [hrest.not_inTransaction, hread]
      next_state := by simp [hop]
      aborted_run := by simp [ha]
      release_reads := fun x hx _ => mem_setupEvents_isRead hx
      teardown_run := by simp [hop]
      nread_le := h.nread_le
      nread_reads := by simp [hread]
      pins_distinct := fun _ => hdist
      seq_paced := setupEvents_paced s _ _
      result_valid := h.result_valid
      under_reset := by simp [hr] }

theorem Inv.after_readCheck {s : State} {i : Instr} (h : Inv s) (hr : s.rstN = true) (hp : s.phase = .check)
    (hd : decode s.cur = .ok i) (hread : isReadWord s.cur = true) (ha : s.aborted = false) (ch : Nat) :
    Inv (readCheck ch s) := by
  have hop : opField s.cur ≠ 0x4#4 := fun ho => by simp [isReadWord, ho] at hread
  have hrest : Inv.AtRest s := h.atRest (by simp [hp])
  obtain ⟨-, hc⟩ | ⟨-, -, hc⟩ | ⟨hidle, -, hc⟩ := readCheck_cases ch s <;> rw [hc]
  · exact h.after_raiseError hr hp _
  · exact h.after_raiseError hr hp _
  · exact {
      busy_iff := by simp [hrest.busy_iff, hp]
      cur_eq := h.cur_eq
      cmd_clean := h.cmd_clean
      seq_run := nofun
      run_assigned := fun _ => ⟨_, hd⟩
      waiting := fun hh => absurd hrest.handshake_idle hh
      transaction_iff := by simp [hread]
      next_state := by simp [hop]
      aborted_run := by simp [ha]
      release_reads := fun x hx hx' => by simp [mem_transaction_tag hx] at hx'
      teardown_run := by simp [hop]
      nread_le := Nat.zero_le 16
      nread_reads := fun _ _ _ => by simp [readsLeft_transaction]
      pins_distinct := fun _ => hrest.pins_distinct hidle
      seq_paced := paced_transaction ch _ _
      result_valid := h.result_valid
      under_reset := by simp [hr] }

/-- A TEARDOWN's events: a safe release or none. -/
theorem teardownEvents_cases (s : State) :
    teardownEvents s = safeRelease s.actPins s.actDelay ∨ teardownEvents s = [] := by
  unfold teardownEvents
  split
  · exact .inl rfl
  · exact .inl rfl
  · exact .inr rfl
  · exact .inr rfl

theorem mem_teardownEvents {s : State} {x : Event × Tag} (h : x ∈ teardownEvents s) :
    x.2 = .release ∧ x.1.isRead = false := by
  obtain hs | hs := teardownEvents_cases s <;> rw [hs] at h
  · exact mem_safeRelease h
  · cases h

theorem paced_teardownEvents (s : State) : paced ((teardownEvents s).map Prod.fst) = true := by
  obtain hs | hs := teardownEvents_cases s <;> rw [hs]
  · exact paced_safeRelease _ _
  · rfl

theorem Inv.after_teardownCheck {s : State} (h : Inv s) (hr : s.rstN = true) (hp : s.phase = .check)
    (hd : decode s.cur = .ok .teardown) (ha : s.aborted = false) : Inv (teardownCheck s) where
  busy_iff := by simp [teardownCheck, h.busy_iff, hp]
  cur_eq := h.cur_eq
  cmd_clean := h.cmd_clean
  seq_run := nofun
  run_assigned _ := ⟨_, hd⟩
  waiting hh := absurd (h.handshake_idle_of_not_run (by simp [hp])) hh
  transaction_iff := by
    simpa [teardownCheck, isReadWord_of_decode hd, readsConverter] using
      (h.atRest (by simp [hp])).not_inTransaction
  next_state := by simp [teardownCheck, opField_of_decode hd, Laws.EncodedForm.opOf]
  aborted_run := by simp [teardownCheck, ha]
  release_reads x hx _ := (mem_teardownEvents hx).2
  teardown_run _ _ := ⟨ha, fun x hx => (mem_teardownEvents hx).1⟩
  nread_le := h.nread_le
  nread_reads := by simp [teardownCheck, isReadWord_of_decode hd, readsConverter]
  pins_distinct hs := h.pins_distinct (by simpa [teardownCheck, hp] using hs)
  seq_paced := paced_teardownEvents s
  result_valid := h.result_valid
  under_reset := by simp [teardownCheck, hr]

theorem Inv.after_checkOf {s : State} {i : Instr} (h : Inv s) (hr : s.rstN = true) (hp : s.phase = .check)
    (hd : decode s.cur = .ok i) : Inv (checkOf i s) := by
  have hb : Inv (beginCheck s) := h.after_beginCheck hr hp
  have hread (hi : readsConverter i = true) (ch : Nat) : Inv (readCheck ch (beginCheck s)) :=
    hb.after_readCheck hr hp hd ((isReadWord_of_decode hd).trans hi) rfl ch
  cases i with
  | setup => exact hb.after_setupCheck hr hp hd rfl
  | read ch => exact hread rfl ch
  | readBoth ch => exact hread rfl ch
  | teardown => exact hb.after_teardownCheck hr hp hd rfl

/-! ## The event step -/

/-- Only a Delay is not a pin operation. -/
theorem exists_delay_of_not_isPinOp {e : Event} (h : e.isPinOp = false) : ∃ ns, e = .delay ns := by
  cases e with
  | delay ns => exact ⟨ns, rfl⟩
  | _ => cases h

theorem isRead_of_not_isPinOp {e : Event} (h : e.isPinOp = false) : e.isRead = false := by
  obtain ⟨ns, rfl⟩ := exists_delay_of_not_isPinOp h
  rfl

/-- An event that leaves `seq`, whatever it writes to the trace, SR, NREAD and RELERR: what the invariant needs
is the count of Reads. -/
theorem Inv.advance {s t : State} {e : Event} {tag : Tag} {rest : List (Event × Tag)} (h : Inv s)
    (hr : s.rstN = true) (hq : s.seq = (e, tag) :: rest) {tr : List TraceEntry} {sr : BitVec 16} {n : Nat}
    {b : Bool} (ht : t = { s with seq := rest, handshake := .idle, trace := tr, sr := sr, nread := n, relerr := b })
    (hn : n ≤ 16) (hreads : s.nread + readsLeft s.seq = 16 → n + readsLeft rest = 16) : Inv t := by
  subst ht
  have htail {x : Event × Tag} (hx : x ∈ rest) : x ∈ s.seq := hq ▸ List.mem_cons_of_mem _ hx
  have hpaced : (e.isTransition == startsWithDelay (rest.map Prod.fst)) = true ∧
      paced (rest.map Prod.fst) = true := by
    simpa [hq, paced] using h.seq_paced
  have hrun : s.phase = .run := by_contra fun hp => by simp [h.seq_run hp] at hq
  exact { h with
    seq_run := fun hp => absurd hrun hp
    waiting := fun hh => absurd rfl hh
    aborted_run := fun hp ha => ⟨(h.aborted_run hp ha).1, fun x hx => (h.aborted_run hp ha).2 x (htail hx)⟩
    release_reads := fun x hx => h.release_reads x (htail hx)
    teardown_run := fun hp ho => ⟨(h.teardown_run hp ho).1, fun x hx => (h.teardown_run hp ho).2 x (htail hx)⟩
    nread_le := hn
    nread_reads := fun hp hw ha => hreads (h.nread_reads hp hw ha)
    seq_paced := hpaced.2
    under_reset := by simp [hr] }

theorem readsLeft_cons (e : Event) (tag : Tag) (rest : List (Event × Tag)) :
    readsLeft ((e, tag) :: rest) = (if e.isRead then 1 else 0) + readsLeft rest := by
  cases hr : e.isRead <;> simp [readsLeft, readOps, hr, Nat.add_comm]

/-- An event other than a Read leaves the count of Reads to come. -/
theorem Inv.after_retire {s : State} {e : Event} {tag : Tag} {rest : List (Event × Tag)} (h : Inv s)
    (hr : s.rstN = true) (hq : s.seq = (e, tag) :: rest) (he : e.isRead = false) (a : Option PinAnswer) (b : Bool) :
    Inv { retire e rest a s with relerr := b } :=
  h.advance hr hq rfl h.nread_le fun hn => by simpa [hq, readsLeft_cons, he] using hn

/-- A Read that is stored moves from the Reads to come to those done. -/
theorem Inv.after_storeLevel {s : State} {e : Event} {tag : Tag} {rest : List (Event × Tag)} (h : Inv s)
    (hr : s.rstN = true) (hq : s.seq = (e, tag) :: rest) (he : e.isRead = true) (a : Option PinAnswer) (lvl : Bool) :
    Inv (storeLevel lvl (retire e rest a s)) := by
  by_cases hlt : s.nread < 16
  · rw [storeLevel_of_lt (s := retire e rest a s) lvl hlt]
    refine h.advance hr hq rfl hlt fun hn => ?_
    rw [hq, readsLeft_cons, if_pos he] at hn
    rw [retire_nread]
    omega
  · rw [show storeLevel lvl (retire e rest a s) = retire e rest a s from if_neg hlt]
    refine h.advance hr hq rfl h.nread_le fun hn => ?_
    rw [hq, readsLeft_cons, if_pos he] at hn
    omega

/-- An abort happens at a NORMAL event, so in no TEARDOWN; what follows it are RELEASE events. -/
theorem Inv.after_abort {s : State} {e : Event} {rest : List (Event × Tag)} (h : Inv s) (hr : s.rstN = true)
    (hq : s.seq = (e, .normal) :: rest) (a : Option PinAnswer) :
    Inv (abort (retire e rest a s)) := by
  have hrun : s.phase = .run := by_contra fun hp => by simp [h.seq_run hp] at hq
  have hnotTeardown : opField s.cur ≠ 0x4#4 := fun ho => by
    have := (h.teardown_run hrun ho).2 (e, .normal) (by simp [hq])
    cases this
  exact { h with
    seq_run := fun hp => absurd hrun hp
    waiting := fun hh => absurd rfl hh
    next_state := fun _ ha => by simp at ha
    aborted_run := fun _ _ => ⟨rfl, fun x hx => (mem_safeRelease hx).1⟩
    release_reads := fun x hx _ => (mem_safeRelease hx).2
    teardown_run := fun _ ho => absurd ho hnotTeardown
    nread_reads := fun _ _ ha => by simp at ha
    pins_distinct := fun hs =>
      have howned : s.state = .idle ∨ s.state = .inTransaction := by simpa using hs
      h.pins_distinct (howned.imp_right .inl)
    seq_paced := paced_safeRelease _ _
    under_reset := by simp [hr] }

theorem Inv.after_eventStep {s : State} {e : Event} {tag : Tag} {rest : List (Event × Tag)} (h : Inv s)
    (hr : s.rstN = true) (hq : s.seq = (e, tag) :: rest) : Inv (eventStep e tag rest s) := by
  have hrun : s.phase = .run := by_contra fun hp => by simp [h.seq_run hp] at hq
  have hu : Inv (consumeReply s) := h.after_consumeReply hr
  have hur : (consumeReply s).rstN = true := by simpa using hr
  have huq : (consumeReply s).seq = (e, tag) :: rest := by simpa using hq
  obtain ⟨he, hc⟩ | ⟨he, ⟨hs, -, hc⟩ | ⟨a, -, ⟨-, rfl, hc⟩ | ⟨-, rfl, hc⟩ | ⟨-, hread, hc⟩ | ⟨-, hread, hc⟩⟩⟩ :=
    eventStep_cases e tag rest s <;> rw [hc]
  · exact h.after_retire hr hq (isRead_of_not_isPinOp he) none s.relerr
  · exact { hu with
      waiting := fun _ => ⟨by simpa using hrun, e, tag, rest, huq, he⟩
      under_reset := by simp [hr] }
  · exact hu.after_abort hur huq _
  · exact hu.after_retire hur huq (h.release_reads _ (hq ▸ List.mem_cons_self) rfl) _ true
  · exact hu.after_storeLevel hur huq hread _ _
  · exact hu.after_retire hur huq hread _ (consumeReply s).relerr

/-! ## The completion step -/

/-- A read's reconciliation leaves a consistent RESULT (10_state.md R33, 43_transaction.md R173). -/
theorem onOkOf_result_valid (i : Instr) {s : State} (h : Inv s) (hv : (onOkOf i s).result.valid = true) :
    ((onOkOf i s).result.matched = true ↔ (onOkOf i s).result.first = (onOkOf i s).result.second) ∧
    ((onOkOf i s).result.sample = (onOkOf i s).result.first ∨
      ((onOkOf i s).result.matched = false ∧ (onOkOf i s).result.sample = 0)) := by
  have hread (k : Bool) : (reconcile k s).result.matched = true ↔
      (reconcile k s).result.first = (reconcile k s).result.second := by
    simp [reconcile_eq]
  have hsample (k : Bool) : (reconcile k s).result.sample = (reconcile k s).result.first ∨
      ((reconcile k s).result.matched = false ∧ (reconcile k s).result.sample = 0) := by
    by_cases hm : firstSample s.sr = secondSample s.actOpt.secondLsb s.sr
    · simp [reconcile_eq, hm]
    · cases hz : s.actOpt.mismatchZero <;> simp [reconcile_eq, hm, hz]
  cases i with
  | setup => exact h.result_valid hv
  | read ch => exact ⟨hread false, hsample false⟩
  | readBoth ch => exact ⟨hread true, hsample true⟩
  | teardown => exact h.result_valid hv

/-- A command ends in IDLE or RELEASED. -/
theorem Inv.nextState_ne_inTransaction {s : State} (h : Inv s) (hp : s.phase = .run) :
    s.nextState ≠ .inTransaction := by
  cases ha : s.aborted with
  | true => simp [(h.aborted_run hp ha).1]
  | false =>
    rw [h.next_state hp ha]
    split <;> nofun

theorem onOkOf_frame (i : Instr) (s : State) :
    ∃ r g, onOkOf i s = { s with result := r, glitch := g } := by
  cases i <;> exact ⟨_, _, rfl⟩

/-- A completion in closed form: only RESULT, GLITCH, ERR, STATE, BUSY and PHASE change, and RESULT is what the
command's own completion writes or stays. -/
theorem completionStep_frame (i : Instr) (s : State) :
    ∃ r g, (r = s.result ∨ (s.aborted = false ∧ r = (onOkOf i s).result)) ∧
      completionStep (onOkOf i) s = { s with
        result := r, glitch := g, err := if s.aborted then .busError else .ok
        state := s.nextState, busy := false, phase := .none } := by
  obtain ha | ha := Bool.eq_false_or_eq_true s.aborted
  · exact ⟨s.result, s.glitch, .inl rfl, by rw [completionStep_aborted _ ha, if_pos ha]⟩
  · obtain ⟨r, g, hrg⟩ := onOkOf_frame i s
    exact ⟨r, g, .inr ⟨ha, by rw [hrg]⟩, by simp [completionStep_ok _ ha, hrg, ha]⟩

theorem Inv.after_completionStep {s : State} (h : Inv s) (hr : s.rstN = true) (hp : s.phase = .run)
    (hq : s.seq = []) (i : Instr) : Inv (completionStep (onOkOf i) s) := by
  obtain ⟨r, g, hresult, hc⟩ := completionStep_frame i s
  rw [hc]
  exact Inv.AtRest.inv {
    busy_iff := by simp
    cur_eq := h.cur_eq
    cmd_clean := h.cmd_clean
    seq_nil := hq
    handshake_idle := h.handshake_idle_of_seq_nil hq
    not_inTransaction := h.nextState_ne_inTransaction hp
    nread_le := h.nread_le
    pins_distinct := fun hs => h.pins_distinct (.inr (.inr ⟨hp, hs⟩))
    result_valid := by
      obtain rfl | ⟨-, rfl⟩ := hresult
      · exact h.result_valid
      · exact onOkOf_result_valid i h } nofun hr

/-! ## Every step -/

theorem Inv.after_controllerTurn {s t : State} (h : Inv s) (hr : s.rstN = true)
    (ht : controllerTurn s = .next t) : Inv t := by
  obtain ⟨-, rfl⟩ | ⟨hp, ⟨i, hd, rfl⟩ | ⟨_, -, rfl⟩⟩ | ⟨hp, hq, ⟨i, -, rfl⟩ | ⟨_, -, rfl⟩⟩ |
    ⟨-, e, tag, rest, hq, rfl⟩ := controllerTurn_cases ht
  · exact h
  · exact h.after_checkOf hr hp hd
  · exact h.after_raiseError hr hp _
  · exact h.after_completionStep hr hp hq i
  · exact h.after_completionStep hr hp hq .setup
  · exact h.after_eventStep hr hq

/-- Settles O45: a reset leaves the reset values, of which the invariant holds; out of reset it is kept by each
agent's move, the Controller's step by step of the command. -/
theorem invariantKeptByEveryStep : Obligations.InvariantKeptByEveryStep := by
  intro s t h hstep
  by_cases hreset : ResetMove s
  · exact inv_of_hardReset_eq (reset_of_resetMove hreset hstep).1
  · obtain ⟨hr, hmove⟩ := step_cases_of_not_reset hreset hstep
    have hs : Inv (takeMove s) := h.after_takeMove hr
    obtain ⟨-, hc⟩ | ⟨a, -, rfl⟩ | ⟨-, rfl⟩ | ⟨_, n, -, -, rfl⟩ := hmove
    · exact hs.after_controllerTurn hr hc
    · exact hs.after_hostAccess hr a
    · exact { hs with under_reset := nofun }
    · exact { hs with under_reset := by simp [hr] }

end Sys2Proof.Machine

/-! # Registers as numbers and as fields (10_state.md, 44_register_access.md)

What each register but CMD reads as, and what a host access does: a read, a write of STATUS, a write of a
configuration register, an access while a command runs. -/

namespace Sys2Proof.Machine

open Sys2Proof

/-! ## Words as numbers -/

theorem toNat_append_eq_add {m n : Nat} (x : BitVec m) (y : BitVec n) :
    (x ++ y).toNat = x.toNat * 2 ^ n + y.toNat := by
  rw [BitVec.toNat_append, ← Nat.shiftLeft_add_eq_or_of_lt y.isLt, Nat.shiftLeft_eq]

theorem scheme_bit_eq_decide (c : Scheme) : Scheme.bit c = decide (c = .board) := by cases c <;> rfl

/-- The number of an assignment's word, field by field (10_state.md R36). -/
theorem pins_toWord_toNat (a : Pins) :
    a.toWord.toNat = a.cs.toNat + 256 * a.clk.toNat + 65536 * a.dio.toNat +
      2 ^ 24 * (decide (a.scheme = .board)).toNat := by
  simp only [Pins.toWord, toNat_append_eq_add, BitVec.toNat_ofBool, BitVec.toNat_ofNat, scheme_bit_eq_decide]
  omega

theorem options_toWord_toNat (o : Options) :
    o.toWord.toNat = o.secondLsb.toNat + 2 * o.mismatchZero.toNat := by
  simp only [Options.toWord, toNat_append_eq_add, BitVec.toNat_ofBool, BitVec.toNat_ofNat]
  omega

theorem result_toWord_toNat (r : Result) :
    r.toWord.toNat = r.sample.toNat + 256 * r.first.toNat + 65536 * r.second.toNat +
      2 ^ 24 * r.matched.toNat + 2 ^ 25 * r.kind.toNat + 2 ^ 26 * r.valid.toNat := by
  simp only [Result.toWord, toNat_append_eq_add, BitVec.toNat_ofBool, BitVec.toNat_ofNat]
  omega

theorem statusWord_toNat (s : State) :
    (statusWord s).toNat = s.state.code.toNat + 4 * s.busy.toNat + 16 * s.err.code.toNat +
      256 * s.glitch.toNat + 512 * s.relerr.toNat + 1024 * s.ovr.toNat := by
  simp only [statusWord, toNat_append_eq_add, BitVec.toNat_ofBool, BitVec.toNat_ofNat]
  omega

/-- Settles O33: each register's layout as a sum, with the codes of STATE and ERR by their tables. -/
theorem statusAndResultWords : Obligations.StatusAndResultWords := by
  intro s
  refine ⟨(statusWord_toNat s).trans ?_, result_toWord_toNat s.result, pins_toWord_toNat s.cfgPins,
    pins_toWord_toNat s.actPins, rfl, rfl, options_toWord_toNat s.cfgOpt, options_toWord_toNat s.actOpt⟩
  cases s.state <;> cases s.err <;> rfl

/-! ## Configuration registers (R193) -/

/-- The bits of the mask of a pins word (10_state.md R36). -/
theorem getLsbD_pinsMask (i : Nat) : (0x01FFFFFF#32).getLsbD i = decide (i < 25) := by
  by_cases h : i < 32
  · interval_cases i <;> rfl
  · rw [BitVec.getLsbD_of_ge _ _ (by omega)]
    symm; simp; omega

theorem scheme_bit_ofBit (b : Bool) : Scheme.bit (Scheme.ofBit b) = b := by cases b <;> rfl

/-- A pins word that is stored reads back with its reserved bits 0. -/
theorem pins_toWord_ofWord (w : Word) : (Pins.ofWord w).toWord = w &&& 0x01FFFFFF#32 := by
  apply BitVec.eq_of_getLsbD_eq
  intro i hi
  simp only [getLsbD_pinsWord, Pins.ofWord, scheme_bit_ofBit, BitVec.getLsbD_and, getLsbD_pinsMask,
    BitVec.getLsbD_extractLsb']
  by_cases h8 : i < 8
  · simp [h8, show i < 25 by omega]
  by_cases h16 : i < 16
  · simp [h8, h16, show i - 8 < 8 by omega, show 8 + (i - 8) = i by omega, show i < 25 by omega]
  by_cases h24 : i < 24
  · simp [h8, h16, h24, show i - 16 < 8 by omega, show 16 + (i - 16) = i by omega, show i < 25 by omega]
  by_cases h25 : i = 24
  · simp [h25]
  · simp [h8, h16, h24, h25, show ¬ i < 25 by omega]

/-- A CFG_OPT or ACT_OPT word bit by bit (10_state.md R38). -/
theorem getLsbD_optionsWord (o : Options) (i : Nat) :
    o.toWord.getLsbD i = if i = 0 then o.secondLsb else if i = 1 then o.mismatchZero else false := by
  show BitVec.getLsbD (w := 30 + 1 + 1)
    (0#30 ++ BitVec.ofBool o.mismatchZero ++ BitVec.ofBool o.secondLsb) i = _
  simp only [BitVec.getLsbD_append, BitVec.getLsbD_zero, BitVec.getLsbD_ofBool]
  match i with
  | 0 => simp
  | 1 => simp
  | i + 2 => simp

/-- The bits of the mask of an options word (10_state.md R38). -/
theorem getLsbD_optionsMask (i : Nat) : (0x00000003#32).getLsbD i = decide (i < 2) := by
  by_cases h : i < 32
  · interval_cases i <;> rfl
  · rw [BitVec.getLsbD_of_ge _ _ (by omega)]
    symm; simp; omega

/-- An options word that is stored reads back with its reserved bits 0. -/
theorem options_toWord_ofWord (w : Word) : (Options.ofWord w).toWord = w &&& 0x00000003#32 := by
  apply BitVec.eq_of_getLsbD_eq
  intro i _
  rw [getLsbD_optionsWord, BitVec.getLsbD_and, getLsbD_optionsMask]
  match i with
  | 0 => simp [Options.ofWord]
  | 1 => simp [Options.ofWord]
  | i + 2 => simp

theorem pins_ofWord_scheme (w : Word) : (Pins.ofWord w).scheme = .board ↔ w.getLsbD 24 = true := by
  show Scheme.ofBit (w.getLsbD 24) = .board ↔ _
  cases w.getLsbD 24 <;> simp [Scheme.ofBit]

/-- Out of reset a host write is the write of its register. -/
theorem step_hostWrite {s : State} {off : BitVec 6} {w : Word} (hr : s.rstN = true)
    (hm : nextMove s = .host (.write off w)) : step s = .next (writeReg off w (takeMove s)) := by
  rw [step_host hr hm, hostAccess_write (s := takeMove s) hr]

/-- Settles O38: the write stores the fields of the word, and the register reads them back. -/
theorem configWriteReadsBack : Obligations.ConfigWriteReadsBack := by
  intro s w hr
  refine ⟨fun hm => ?_, fun hm => ?_, fun hm => ?_⟩
  · exact ⟨_, Pins.ofWord w, step_hostWrite hr hm, rfl, pins_toWord_ofWord w, pins_toWord_ofWord w, rfl, rfl,
      rfl, pins_ofWord_scheme w⟩
  · exact ⟨_, step_hostWrite hr hm, rfl, rfl⟩
  · exact ⟨_, Options.ofWord w, step_hostWrite hr hm, rfl, options_toWord_ofWord w, options_toWord_ofWord w,
      rfl, rfl⟩

/-! ## Other host accesses -/

/-- Settles O32: the step is the host's read, which writes the read data alone. -/
theorem hostReadHasNoSideEffect : Obligations.HostReadHasNoSideEffect := fun _ _ hr hm => step_host hr hm

theorem stickyAfterWrite_eq_ite (old w1 : Bool) :
    stickyAfterWrite old w1 = if w1 = true then false else old := by
  cases w1 <;> simp [stickyAfterWrite]

/-- Settles O37: the step is the clearing of the flags written as 1. -/
theorem statusWriteClearsFlags : Obligations.StatusWriteClearsFlags := by
  intro s w hr hm
  rw [step_hostWrite hr hm, ← stickyAfterWrite_eq_ite, ← stickyAfterWrite_eq_ite, ← stickyAfterWrite_eq_ite]
  rfl

/-- Settles O39: while BUSY a write of CMD only sets OVR, and every other access leaves the command alone. -/
theorem hostCannotTouchRunningCommand : Obligations.HostCannotTouchRunningCommand := by
  intro s a hb
  cases hr : s.rstN with
  | true =>
    obtain ⟨w, -, h⟩ | ⟨w, -, h⟩ | ⟨-, -, p, d, o, r, h⟩ := hostAccess_cases hr a
    · rw [h, writeCmd_of_busy hb]
      rfl
    · rw [h]
      rfl
    · rw [h]
  | false =>
    cases a with
    | read off => rfl
    | write off w => rw [hostAccess_write_under_reset hr]

end Sys2Proof.Machine

/-! # The agents' moves (00_scope.md R10, 70_reset_and_hazards.md)

What the step is on each agent's turn, and what a reset and a late answer do. -/

namespace Sys2Proof.Machine

open Sys2Proof

/-! ## The Controller's turn -/

theorem controllerTurn_of_decode {s : State} {i : Instr} (h : decode s.cur = .ok i) :
    controllerTurn s = exec i s := by
  simp [controllerTurn, h]

/-- Settles O6: the Controller's turn is that of the command CUR decodes to. -/
theorem stepRunsDecodedCommand : Obligations.StepRunsDecodedCommand := by
  intro s i hc hd
  rw [step_controller hc]
  exact controllerTurn_of_decode (s := takeMove s) hd

theorem decode_of_decodeTableWord {nbits w : Nat} {i : Instr} (h : decodeTableWord nbits w = some i) :
    decode (tableWord nbits w) = .ok i := by
  cases hd : decode (tableWord nbits w) <;>
    simp_all [decodeTableWord, decodeBytes, wordBytes, wordOfBytes_byteLanes]

/-- Settles O7: the placed word is in CUR and the Controller's move first on the agenda. -/
theorem placedWordRunsNext : Obligations.PlacedWordRunsNext := by
  intro s nbits w i h
  have hcur : decode (acceptedWord (tableWord nbits w)) = .ok i :=
    (decode_acceptedWord _).trans (decode_of_decodeTableWord h)
  exact stepRunsDecodedCommand (s.withFetchWord nbits w) i ⟨rfl, rfl⟩ hcur

/-- Settles O9: between commands the Controller's turn changes nothing. -/
theorem idleControllerChangesNothing : Obligations.IdleControllerChangesNothing := by
  intro s hc hp
  rw [step_controller hc]
  exact controllerTurn_of_idle (s := takeMove s) hp

/-! ## Late answers (R232) -/

theorem strayAnswer_of_owed {s : State} {n : Nat} (h : s.orphans = n + 1) :
    strayAnswer s = .next { s with orphans := n } := by
  simp [strayAnswer, h]

theorem strayAnswer_of_unsolicited {s : State} (h : s.orphans = 0) :
    strayAnswer s = .refused .unsolicitedPinAnswer := by
  simp [strayAnswer, h]

theorem step_strayAnswer {s : State} {a : PinAnswer} (h : nextMove s = .strayAnswer a) :
    step s = strayAnswer (takeMove (underReset s)) := by
  rw [step, stepOnce, h]
  rfl

/-- Settles O43: an owed answer is counted off, under reset from the reset values; another is refused. -/
theorem lateAnswerIgnored : Obligations.LateAnswerIgnored := by
  intro s a hm
  refine ⟨fun hr => ?_, fun hr => ?_, hardReset_orphans s⟩
  · rw [step_strayAnswer hm, underReset_of_rstN hr]
    exact ⟨fun n hn => strayAnswer_of_owed (s := takeMove s) hn,
      fun h0 => strayAnswer_of_unsolicited (s := takeMove s) h0⟩
  · rw [step_strayAnswer hm, underReset_of_not_rstN hr]
    exact ⟨fun n hn => strayAnswer_of_owed (s := takeMove (hardReset s)) hn,
      fun h0 => strayAnswer_of_unsolicited (s := takeMove (hardReset s)) h0⟩

theorem orphans_le_underReset (s : State) : s.orphans ≤ (underReset s).orphans := by
  cases hr : s.rstN with
  | true => rw [underReset_of_rstN hr]
  | false =>
    rw [underReset_of_not_rstN hr, hardReset_orphans]
    split <;> omega

/-- Settles O10: the moves of the Controller, the host and `rst_ni` always answer a state, and so does an
answer that is owed, which a reset does not forget. -/
theorem everyStepAnswersNext : Obligations.EveryStepAnswersNext := by
  intro s h
  cases hm : nextMove s with
  | controller => exact ⟨_, by rw [step, stepOnce, hm]; exact controllerTurn_eq _⟩
  | host a => exact ⟨_, by rw [step, stepOnce, hm]; rfl⟩
  | rst b => exact ⟨_, by rw [step, stepOnce, hm]; rfl⟩
  | strayAnswer a =>
    have howed : 0 < s.orphans := h.resolve_left fun hno => hno a hm
    obtain ⟨n, hn⟩ := Nat.exists_eq_add_one.mpr (howed.trans_le (orphans_le_underReset s))
    exact ⟨_, (step_strayAnswer hm).trans (strayAnswer_of_owed (s := takeMove (underReset s)) hn)⟩

/-! ## Reset (R230 to R232) -/

/-- Settles O41: the step is the reset of the state with the move taken. -/
theorem resetTakesPrecedence : Obligations.ResetTakesPrecedence := fun _ hr hm => step_rst hr hm

end Sys2Proof.Machine

/-! # Check steps that pass (41_command_engine.md R122, 42_lifecycle.md, 43_transaction.md)

What SETUP, the reads and TEARDOWN begin, and which pins the block owns then (10_state.md R41, log 27). -/

namespace Sys2Proof.Machine

open Sys2Proof

/-! ## SETUP (42_lifecycle.md R141 to R143) -/

theorem Pins.distinct_of_ne {a : Pins} (hcc : a.cs ≠ a.clk) (hcd : a.cs ≠ a.dio) (hkd : a.clk ≠ a.dio) :
    a.distinct = true := by
  simp [Pins.distinct, hcc, hcd, hkd]

theorem pinsValid_of_not_listed {a : Pins} {s : State}
    (h : ∀ p ∈ s.invalidPins, p ≠ a.csPin ∧ p ≠ a.clkPin ∧ p ≠ a.dioPin) : pinsValid a s = true := by
  rw [← Bool.not_eq_false, pinsValid_eq_false_iff]
  rintro (hp | hp | hp)
  · exact (h _ hp).1 rfl
  · exact (h _ hp).2.1 rfl
  · exact (h _ hp).2.2 rfl

theorem setupCheck_of_goodPins {s : State} (hd : s.cfgPins.distinct = true)
    (hv : pinsValid s.cfgPins s = true) :
    setupCheck s = startRun (setupPrelude s ++ configure s.cfgPins s.cfgDelay) .idle
      (latchActive (takeSnap s)) := by
  obtain ⟨hbad, -⟩ | ⟨-, -, hc⟩ := setupCheck_cases s
  · simp [hd, hv] at hbad
  · exact hc

/-- The check step of a SETUP that passes. -/
theorem exec_setup_check {s : State} (hp : s.phase = .check) (hd : s.cfgPins.distinct = true)
    (hv : pinsValid s.cfgPins s = true) :
    exec .setup s = .next (startRun (setupPrelude s ++ configure s.cfgPins s.cfgDelay) .idle
      (latchActive (takeSnap (beginCheck s)))) := by
  rw [exec_check .setup hp]
  exact congrArg Host.Outcome.next (setupCheck_of_goodPins (s := beginCheck s) hd hv)

/-- Every pin that is still to be configured is still to be claimed. -/
theorem claimLeft_configure {a : Pins} {p : PinId} (hp : p ∈ a.all) (q : List (Event × Tag)) (d : Word) :
    claimLeft p (q ++ configure a d) = true := by
  simp only [Pins.all, List.mem_cons, List.not_mem_nil, or_false] at hp
  rcases hp with rfl | rfl | rfl <;>
    simp [claimLeft, configure, tagged, configureEvents, withDelay]

/-- After SETUP's check step the pins owned are those its prelude is to release. -/
theorem ownedPins_of_setup_started {s : State} {q : List (Event × Tag)} (hp : s.phase = .run)
    (hd : decode s.cur = .ok .setup) (hq : s.seq = q ++ configure s.actPins s.actDelay) :
    ownedPins s = releasesLeft q := by
  rw [ownedPins_of_run hp (isReadWord_of_decode hd), ownedMidCommand, hq, releasesLeft_append,
    releasesLeft_configure, List.append_nil]
  have hnone : s.actPins.all.filter
      (fun p => !claimLeft p (q ++ configure s.actPins s.actDelay)) = [] :=
    List.filter_eq_nil_iff.mpr fun p hp => by simp [claimLeft_configure hp]
  split
  · rw [hnone, List.append_nil]
  · rw [List.append_nil]

theorem setupPrelude_of_idle {s : State} (h : s.state = .idle) :
    setupPrelude s = safeRelease s.actPins s.actDelay := if_pos h

theorem setupPrelude_of_not_idle {s : State} (h : s.state ≠ .idle) : setupPrelude s = [] := if_neg h

/-- Settles O13: outside IDLE the prelude is empty, so the events are the configuration's and no pin is owned. -/
theorem setupStartsUnowned : Obligations.SetupStartsUnowned := by
  intro s hp hs hcc hcd hkd hv
  have hcheck := exec_setup_check hp (Pins.distinct_of_ne hcc hcd hkd) (pinsValid_of_not_listed hv)
  rw [setupPrelude_of_not_idle hs, List.nil_append] at hcheck
  exact ⟨_, hcheck, rfl, rfl, rfl, fun hd => ownedPins_of_setup_started (q := []) rfl hd rfl, rfl⟩

/-- Settles O14: from IDLE the prelude is the safe release of the old pins, which stay owned until released. -/
theorem setupStartsFromIdle : Obligations.SetupStartsFromIdle := by
  intro s hp hs hcc hcd hkd hv
  have hcheck := exec_setup_check hp (Pins.distinct_of_ne hcc hcd hkd) (pinsValid_of_not_listed hv)
  rw [setupPrelude_of_idle hs] at hcheck
  exact ⟨_, hcheck, rfl, rfl, rfl,
    fun hd => ownedPins_of_setup_started (q := safeRelease s.actPins s.actDelay) rfl hd rfl, rfl⟩

/-! ## READ and READ_BOTH (43_transaction.md R160 to R162) -/

theorem readCheck_of_valid {ch : Nat} {s : State} (hs : s.state = .idle) (hch : ch < 2) :
    readCheck ch s = startRun (transaction ch s.actPins s.actDelay) .idle
      { s with sr := 0, nread := 0, state := .inTransaction } := by
  obtain ⟨hn, -⟩ | ⟨-, hge, -⟩ | ⟨-, -, hc⟩ := readCheck_cases ch s
  · exact absurd hs hn
  · omega
  · exact hc

/-- Settles O16: both reads share the check, which starts the transaction. -/
theorem readsStartTransaction : Obligations.ReadsStartTransaction := by
  intro s ch i hi hp hs hch
  rw [exec_check i hp, checkOf_read hi, readCheck_of_valid (s := beginCheck s) hs hch]
  rfl

/-! ## TEARDOWN (42_lifecycle.md R150 to R153) -/

theorem exec_teardown_check {s : State} (hp : s.phase = .check) :
    exec .teardown s = .next (startRun (teardownEvents s) .released (beginCheck s)) :=
  exec_check .teardown hp

theorem teardownEvents_of_idle {s : State} (h : s.state = .idle) :
    teardownEvents s = safeRelease s.actPins s.actDelay := by
  simp [teardownEvents, h]

theorem teardownEvents_of_unowned {s : State} (h : s.state = .uninitialized ∨ s.state = .released) :
    teardownEvents s = [] := by
  obtain h | h := h <;> simp [teardownEvents, h]

/-- In the middle of a TEARDOWN the pins owned are those still to be released. -/
theorem ownedPins_of_teardown {s : State} (hp : s.phase = .run) (hd : decode s.cur = .ok .teardown) :
    ownedPins s = releasesLeft s.seq := by
  rw [ownedPins_of_run hp (isReadWord_of_decode hd), ownedMidCommand, opField_of_decode hd,
    if_neg (by simp [Laws.EncodedForm.opOf]), List.append_nil]

/-- Settles O22: STATE alone decides whether there is anything to release. -/
theorem teardownStarts : Obligations.TeardownStarts := by
  intro s hp
  refine ⟨fun hs => ?_, fun hs => ?_, fun t hd ht => ?_⟩
  · rw [exec_teardown_check hp, teardownEvents_of_idle hs]
    rfl
  · rw [exec_teardown_check hp, teardownEvents_of_unowned hs]
    rfl
  · obtain rfl := Host.Outcome.next.inj ((exec_teardown_check hp).symm.trans ht)
    have howned : ownedPins (startRun (teardownEvents s) .released (beginCheck s)) =
        releasesLeft (teardownEvents s) := ownedPins_of_teardown rfl hd
    rw [howned]
    refine ⟨fun hs => ?_, fun hs => ?_⟩
    · rw [teardownEvents_of_idle hs, releasesLeft_safeRelease, Pins.all]
    · rw [teardownEvents_of_unowned hs]
      rfl

end Sys2Proof.Machine

/-! # Event steps and completions (41_command_engine.md R123, R127; 40_interfaces.md R102, R104, R107) -/

namespace Sys2Proof.Machine

open Sys2Proof

/-- Whatever the command, its step in RUN with an event left is that event's. -/
theorem exec_event {s : State} {e : Event} {tag : Tag} {rest : List (Event × Tag)} (i : Instr)
    (hp : s.phase = .run) (hs : s.seq = (e, tag) :: rest) :
    exec i s = .next (eventStep e tag rest s) := by
  rw [exec_eq, commandStep_event _ _ hp hs]

/-- Settles O23: a Delay's step is its retirement. -/
theorem delayStepOnlyAdvances : Obligations.DelayStepOnlyAdvances := fun _ i _ _ _ hp hs => exec_event i hp hs

/-- A success retires the operation, and a Read stores its level too. -/
theorem exec_pinOp_success {s : State} {e : Event} {tag : Tag} {rest : List (Event × Tag)} {lvl : Bool}
    (i : Instr) (hp : s.phase = .run) (hs : s.seq = (e, tag) :: rest) (he : e.isPinOp = true)
    (ha : nextReply s = .answered ⟨lvl, false⟩) :
    exec i s = .next (if e.isRead then
        storeLevel lvl (retire e rest (some ⟨lvl, false⟩) (consumeReply s))
      else retire e rest (some ⟨lvl, false⟩) (consumeReply s)) := by
  rw [exec_pinOp i hp hs he, pinOpStep_answered ha]
  rfl

/-- Settles O24: an operation that reads nothing is retired with its answer. -/
theorem pinOpSuccessAdvances : Obligations.PinOpSuccessAdvances := by
  intro s i e tag rest lvl hp hs he hread ha
  rw [exec_pinOp_success i hp hs he ha, hread, retire, consumeReply_trace]
  rfl

/-- Settles O25: the Read is retired and its level set in SR at NREAD. -/
theorem readLevelStored : Obligations.ReadLevelStored := by
  intro s i p tag rest lvl hp hs hn ha
  have hlt : (retire (.read p) rest (some ⟨lvl, false⟩) (consumeReply s)).nread < 16 := by simpa using hn
  refine ⟨setLevel s.sr s.nread lvl, fun k _ => getLsbD_setLevel s.sr s.nread k lvl hn, ?_⟩
  rw [exec_pinOp_success i hp hs rfl ha, if_pos (show (Event.read p).isRead = true from rfl),
    storeLevel_of_lt lvl hlt]
  simp [retire]

/-! ## Waiting (40_interfaces.md R102) -/

theorem waitHandshake_false_of_ne {h : Handshake} (hne : h ≠ .taken) : waitHandshake false h = .presented := by
  cases h
  · rfl
  · rfl
  · exact absurd rfl hne

theorem exec_notReady {s : State} {e : Event} {tag : Tag} {rest : List (Event × Tag)} (i : Instr)
    (hp : s.phase = .run) (hs : s.seq = (e, tag) :: rest) (he : e.isPinOp = true)
    (hn : nextReply s = .notReady) :
    exec i s = .next { consumeReply s with handshake := waitHandshake false s.handshake } := by
  rw [exec_pinOp i hp hs he, pinOpStep_notReady hn]

theorem exec_pending {s : State} {e : Event} {tag : Tag} {rest : List (Event × Tag)} (i : Instr)
    (hp : s.phase = .run) (hs : s.seq = (e, tag) :: rest) (he : e.isPinOp = true)
    (hn : nextReply s = .pending) :
    exec i s = .next { consumeReply s with handshake := .taken } := by
  rw [exec_pinOp i hp hs he, pinOpStep_pending hn]
  rfl

/-- Settles O28: a turn without an answer only moves the exchange, and not back from taken. -/
theorem unansweredOperationWaits : Obligations.UnansweredOperationWaits := by
  intro s i e tag rest hp hs he
  refine ⟨fun hn hne => ?_, fun hn ht => ?_, fun hn => exec_pending i hp hs he hn⟩
  · rw [exec_notReady i hp hs he hn, waitHandshake_false_of_ne hne]
  · have hkeep : waitHandshake false s.handshake = (consumeReply s).handshake := by simp [ht, waitHandshake]
    rw [exec_notReady i hp hs he hn, hkeep]

theorem pinRequest_of_presented {s : State} {e : Event} {tag : Tag} {rest : List (Event × Tag)}
    (hh : s.handshake = .presented) (hs : s.seq = (e, tag) :: rest) : pinRequest s = Event.request e := by
  simp [pinRequest, hh, hs]

/-- Settles O29: the request that is not taken stays presented with the same first event. -/
theorem presentedRequestIsStable : Obligations.PresentedRequestIsStable := by
  intro s i e tag rest hp hd hs he hne hc hn
  have hstep := (stepRunsDecodedCommand s i hc hd).trans
    (exec_notReady (s := takeMove s) i hp hs he hn)
  rw [waitHandshake_false_of_ne (by exact hne)] at hstep
  exact ⟨_, hstep, pinRequest_of_presented rfl (by simpa using hs), by simp, by simpa using hp⟩

/-! ## Requests (30_encoding.md R88, 40_interfaces.md R102) -/

theorem request_isSome (e : Event) : (Event.request e).isSome = e.isPinOp := by cases e <;> rfl

theorem request_op_le {e : Event} {r : PinRequest} (h : Event.request e = some r) : r.op.toNat ≤ 4 := by
  cases e <;> cases h <;> simp

theorem pinRequest_eq_some {s : State} {r : PinRequest} (h : pinRequest s = some r) :
    s.handshake = .presented ∧ ∃ e tag rest, s.seq = (e, tag) :: rest ∧ Event.request e = some r := by
  unfold pinRequest at h
  split at h
  · exact ⟨‹_›, _, _, _, ‹_›, h⟩
  · cases h

/-- Settles O60: the codes by the table; a request is on the port only while presented, and then the first
event is the operation the invariant says the port waits for. -/
theorem pinRequestSignals : Obligations.PinRequestSignals := by
  refine ⟨fun p v => ?_, fun s h => ⟨fun hr => ?_, fun hh => ?_⟩, fun s r hr => ?_⟩
  · simp [Event.request, scheme_bit_eq_decide]
  · obtain ⟨r, hr⟩ := Option.isSome_iff_exists.mp hr
    exact (pinRequest_eq_some hr).1
  · obtain ⟨-, e, tag, rest, hq, he⟩ := h.waiting (by simp [hh])
    rw [pinRequest_of_presented hh hq, request_isSome, he]
  · obtain ⟨-, e, tag, rest, hq, he⟩ := pinRequest_eq_some hr
    exact ⟨request_op_le he, e, tag, rest, hq, by rw [← request_isSome, he]; rfl, he⟩

/-! ## Completion (R127) -/

theorem onOkOf_lifecycle {i : Instr} (h : i = .setup ∨ i = .teardown) : onOkOf i = id := by
  obtain rfl | rfl := h <;> rfl

/-- Settles O30: the lifecycle commands' own completion adds nothing. -/
theorem setupTeardownComplete : Obligations.SetupTeardownComplete := by
  intro s i hi hp hq ha
  rw [exec_eq, commandStep_unaborted_done _ _ hp hq ha, onOkOf_lifecycle hi]
  rfl

/-- Settles O31: an aborted command skips its own completion. -/
theorem abortedCommandCompletes : Obligations.AbortedCommandCompletes := by
  intro s i hp hq ha
  rw [exec_eq, commandStep_done _ _ hp hq, completionStep_aborted _ ha]

end Sys2Proof.Machine

/-! # Rules over every step (10_state.md, 60_exceptions.md)

What a check step can be, and from that, agent by agent, when the active configuration (R39), STATE (R24), ERR and
BUSY (R25, R26) change, and from which cause each result code arises (R201 to R206). -/

namespace Sys2Proof.Machine

open Sys2Proof

/-! ## What a check step can be (41_command_engine.md R122) -/

/-- The causes for which the check of an assigned OP fails, each with its code (60_exceptions.md R201). -/
inductive CheckFails (s : State) : ErrCode → Prop where
  | configurationError (hd : decode s.cur = .ok .setup)
      (hbad : s.cfgPins.distinct = false ∨ s.cfgPins.csPin ∈ s.invalidPins ∨
        s.cfgPins.clkPin ∈ s.invalidPins ∨ s.cfgPins.dioPin ∈ s.invalidPins) :
      CheckFails s .configurationError
  | notInitialized (hread : isReadWord s.cur = true) (hstate : s.state ≠ .idle) :
      CheckFails s .notInitialized
  | invalidChannel (hread : isReadWord s.cur = true) (hidle : s.state = .idle) (hch : 2 ≤ chOperand s.cur) :
      CheckFails s .invalidChannel

/-- A check that passes starts the run of a SETUP, a read or a TEARDOWN. -/
inductive CheckPasses (s : State) : State → Prop where
  | setup (hd : decode s.cur = .ok .setup) (hdistinct : s.cfgPins.distinct = true) :
      CheckPasses s (startRun (setupPrelude s ++ configure s.cfgPins s.cfgDelay) .idle
        (latchActive (takeSnap (beginCheck s))))
  | read (hread : isReadWord s.cur = true) (hidle : s.state = .idle) (hch : chOperand s.cur < 2) :
      CheckPasses s (startRun (transaction (chOperand s.cur) s.actPins s.actDelay) .idle
        { beginCheck s with sr := 0, nread := 0, state := .inTransaction })
  | teardown (hd : decode s.cur = .ok .teardown) :
      CheckPasses s (startRun (teardownEvents s) .released (beginCheck s))

theorem checkOf_cases {s : State} {i : Instr} (hd : decode s.cur = .ok i) :
    (∃ c, CheckFails s c ∧ checkOf i s = raiseError c (beginCheck s)) ∨ CheckPasses s (checkOf i s) := by
  have hread (hr : isReadWord s.cur = true) :
      (∃ c, CheckFails s c ∧ readCheck (chOperand s.cur) (beginCheck s) = raiseError c (beginCheck s)) ∨
      CheckPasses s (readCheck (chOperand s.cur) (beginCheck s)) := by
    obtain ⟨hs, hc⟩ | ⟨hs, hch, hc⟩ | ⟨hs, hch, hc⟩ := readCheck_cases (chOperand s.cur) (beginCheck s)
    · exact .inl ⟨_, .notInitialized hr hs, hc⟩
    · exact .inl ⟨_, .invalidChannel hr hs hch, hc⟩
    · exact .inr (hc ▸ .read hr hs hch)
  obtain ⟨rfl, -⟩ | ⟨rfl, -⟩ | ⟨rfl, -⟩ | ⟨rfl, -⟩ := decode_cases hd
  · obtain ⟨hbad, hc⟩ | ⟨hdist, -, hc⟩ := setupCheck_cases (beginCheck s)
    · exact .inl ⟨_, .configurationError hd (hbad.imp_right (pinsValid_eq_false_iff _ _).mp), hc⟩
    · exact .inr (show CheckPasses s (setupCheck (beginCheck s)) from hc ▸ .setup hd hdist)
  · exact hread (isReadWord_of_decode hd)
  · exact hread (isReadWord_of_decode hd)
  · exact .inr (.teardown hd)

/-- What passes its check leaves CHECK for RUN and keeps ERR, BUSY and every flag. -/
theorem CheckPasses.keeps {s t : State} (h : CheckPasses s t) :
    t.phase = .run ∧ t.err = s.err ∧ t.busy = s.busy := by
  cases h <;> exact ⟨rfl, rfl, rfl⟩

/-! ## What the other steps keep -/

theorem eventStep_keeps_lifecycle (e : Event) (tag : Tag) (rest : List (Event × Tag)) (s : State) :
    (eventStep e tag rest s).state = s.state ∧ (eventStep e tag rest s).busy = s.busy ∧
      (eventStep e tag rest s).phase = s.phase := by
  obtain ⟨-, h⟩ | ⟨-, ⟨_, -, h⟩ | ⟨a, -, ⟨-, -, h⟩ | ⟨-, -, h⟩ | ⟨-, -, h⟩ | ⟨-, -, h⟩⟩⟩ :=
    eventStep_cases e tag rest s <;> simp [h]

/-- ACT_PINS, ACT_DELAY and ACT_OPT are as they were. -/
def ActiveKept (s t : State) : Prop :=
  t.actPins = s.actPins ∧ t.actDelay = s.actDelay ∧ t.actOpt = s.actOpt

theorem eventStep_activeKept (e : Event) (tag : Tag) (rest : List (Event × Tag)) (s : State) :
    ActiveKept s (eventStep e tag rest s) := by
  obtain ⟨-, h⟩ | ⟨-, ⟨_, -, h⟩ | ⟨a, -, ⟨-, -, h⟩ | ⟨-, -, h⟩ | ⟨-, -, h⟩ | ⟨-, -, h⟩⟩⟩ :=
    eventStep_cases e tag rest s <;> simp [h, ActiveKept]

theorem completionStep_activeKept (i : Instr) (s : State) : ActiveKept s (completionStep (onOkOf i) s) := by
  obtain ⟨r, g, -, hc⟩ := completionStep_frame i s
  rw [hc]
  exact ⟨rfl, rfl, rfl⟩

theorem hostAccess_activeKept {s : State} (hr : s.rstN = true) (a : HostAccess) :
    ActiveKept s (hostAccess a s) := by
  obtain ⟨w, -, h⟩ | ⟨w, -, h⟩ | ⟨-, -, p, d, o, r, h⟩ := hostAccess_cases hr a
  · cases hb : s.busy <;> simp [h, writeCmd, hb, ActiveKept]
  · simp [h, ActiveKept]
  · simp [h, ActiveKept]

/-- A host access leaves STATE and ERR, and never drops BUSY. -/
theorem hostAccess_keeps_lifecycle {s : State} (hr : s.rstN = true) (a : HostAccess) :
    (hostAccess a s).state = s.state ∧ (hostAccess a s).err = s.err ∧
      (s.busy = true → (hostAccess a s).busy = true) := by
  obtain ⟨w, -, h⟩ | ⟨w, -, h⟩ | ⟨-, -, p, d, o, r, h⟩ := hostAccess_cases hr a
  · cases hb : s.busy <;> simp [h, writeCmd, hb]
  · simp [h]
  · simp [h]

/-! ## The active configuration (10_state.md R39) -/

theorem checkOf_active {s : State} {i : Instr} (hd : decode s.cur = .ok i)
    (h : ¬ ActiveKept s (checkOf i s)) :
    decode s.cur = .ok .setup ∧ (checkOf i s).actPins = s.cfgPins ∧ (checkOf i s).actDelay = s.cfgDelay ∧
      (checkOf i s).actOpt = s.cfgOpt ∧ (checkOf i s).actPins.distinct = true ∧ (checkOf i s).phase = .run := by
  obtain ⟨c, -, hc⟩ | hc := checkOf_cases hd
  · exact absurd ⟨by rw [hc]; rfl, by rw [hc]; rfl, by rw [hc]; rfl⟩ h
  · generalize checkOf i s = t at hc h ⊢
    cases hc with
    | setup hd hdist => exact ⟨hd, rfl, rfl, rfl, hdist, rfl⟩
    | read => exact absurd ⟨rfl, rfl, rfl⟩ h
    | teardown => exact absurd ⟨rfl, rfl, rfl⟩ h

/-- Settles O47: out of reset only the check of a SETUP that passes writes the active configuration. -/
theorem activeConfigChangesOnlyAtSetup : Obligations.ActiveConfigChangesOnlyAtSetup := by
  intro s t hstep hne
  refine or_iff_not_imp_left.mpr fun hn => ?_
  change ¬ ActiveKept (takeMove s) t at hne
  obtain ⟨hr, ⟨hm, hc⟩ | ⟨a, -, rfl⟩ | ⟨-, rfl⟩ | ⟨_, n, -, -, rfl⟩⟩ := step_cases_of_not_reset hn hstep
  · obtain ⟨-, rfl⟩ | ⟨hp, ⟨i, hd, rfl⟩ | ⟨_, -, rfl⟩⟩ | ⟨-, -, ⟨i, -, rfl⟩ | ⟨_, -, rfl⟩⟩ |
      ⟨-, e, tag, rest, -, rfl⟩ := controllerTurn_cases hc
    · exact absurd ⟨rfl, rfl, rfl⟩ hne
    · exact ⟨hm, hp, checkOf_active hd hne⟩
    · exact absurd ⟨rfl, rfl, rfl⟩ hne
    · exact absurd (completionStep_activeKept i _) hne
    · exact absurd (completionStep_activeKept .setup _) hne
    · exact absurd (eventStep_activeKept e tag rest _) hne
  · exact absurd (hostAccess_activeKept (s := takeMove s) hr a) hne
  · exact absurd ⟨rfl, rfl, rfl⟩ hne
  · exact absurd ⟨rfl, rfl, rfl⟩ hne

/-! ## The end of a command -/

/-- Where no reset is or comes into force, a step that changes STATE or ERR or drops BUSY is the Controller's. -/
theorem controllerMoves_of_change {s t : State} (hn : ¬ ResetMove s) (hstep : step s = .next t)
    (h : t.state ≠ s.state ∨ t.err ≠ s.err ∨ (s.busy = true ∧ t.busy = false)) :
    ControllerMoves s ∧ controllerTurn (takeMove s) = .next t := by
  obtain ⟨hr, ⟨hm, hc⟩ | ⟨a, -, rfl⟩ | ⟨-, rfl⟩ | ⟨_, n, -, -, rfl⟩⟩ := step_cases_of_not_reset hn hstep
  · exact ⟨⟨hr, hm⟩, hc⟩
  · obtain ⟨hstate, herr, hbusy⟩ := hostAccess_keeps_lifecycle (s := takeMove s) hr a
    obtain h | h | ⟨hb, h⟩ := h
    · exact absurd hstate h
    · exact absurd herr h
    · exact absurd (h.symm.trans (hbusy hb)) Bool.false_ne_true
  · simp [driveReset] at h
  · simp at h

/-- Settles O49: a check that passes and an event keep ERR and BUSY; a check that fails and a completion end the
command. -/
theorem errAndBusyChangeOnlyAtCompletion : Obligations.ErrAndBusyChangeOnlyAtCompletion := by
  intro s t hstep h
  refine or_iff_not_imp_left.mpr fun hn => ?_
  obtain ⟨hmoves, hc⟩ := controllerMoves_of_change hn hstep (.inr h)
  have hkept {u : State} (herr : u.err = s.err) (hbusy : u.busy = s.busy)
      (h : u.err ≠ s.err ∨ (s.busy = true ∧ u.busy = false)) : False := by
    simp [herr, hbusy] at h
  refine ⟨hmoves, ?_⟩
  obtain ⟨-, rfl⟩ | ⟨hp, ⟨i, hd, rfl⟩ | ⟨_, -, rfl⟩⟩ | ⟨hp, hq, ⟨i, -, rfl⟩ | ⟨_, -, rfl⟩⟩ |
    ⟨-, e, tag, rest, -, rfl⟩ := controllerTurn_cases hc
  · exact (hkept rfl rfl h).elim
  · obtain ⟨c, -, hfail⟩ | hpass := checkOf_cases hd
    · rw [hfail]
      exact ⟨rfl, rfl, .inl hp⟩
    · exact (hkept hpass.keeps.2.1 hpass.keeps.2.2 h).elim
  · exact ⟨rfl, rfl, .inl hp⟩
  · exact ⟨rfl, rfl, .inr ⟨hp, hq⟩⟩
  · exact ⟨rfl, rfl, .inr ⟨hp, hq⟩⟩
  · exact (hkept (eventStep_keeps_err e tag rest (takeMove s))
      (eventStep_keeps_lifecycle e tag rest (takeMove s)).2.1 h).elim

/-! ## The lifecycle (10_state.md R24) -/

theorem Inv.state_eq_inTransaction {s : State} (h : Inv s) (hp : s.phase = .run)
    (hread : isReadWord s.cur = true) : s.state = .inTransaction := h.transaction_iff.mpr ⟨hp, hread⟩

theorem Inv.state_ne_inTransaction {s : State} (h : Inv s) (hread : isReadWord s.cur = false) :
    s.state ≠ .inTransaction := fun hs => by
  simp [(h.transaction_iff.mp hs).2] at hread

theorem Inv.state_ne_inTransaction_of_check {s : State} (h : Inv s) (hp : s.phase = .check) :
    s.state ≠ .inTransaction := (h.atRest (by simp [hp])).not_inTransaction

/-- Where the block neither owns pins nor reads, it is in UNINITIALIZED or RELEASED. -/
theorem state_unowned {l : Lifecycle} (hi : l ≠ .idle) (ht : l ≠ .inTransaction) :
    l = .uninitialized ∨ l = .released := by
  cases l <;> simp_all

/-- What STATE a completion leaves: RELEASED after an abort or a TEARDOWN, else IDLE. -/
theorem completion_transition {s : State} {i : Instr} (h : Inv s) (hp : s.phase = .run)
    (hd : decode s.cur = .ok i) (hne : s.nextState ≠ s.state) :
    (s.aborted = false ∧ decode s.cur = .ok .setup ∧ s.nextState = .idle ∧
      (s.state = .uninitialized ∨ s.state = .released)) ∨
    (s.aborted = false ∧ isReadWord s.cur = true ∧ s.state = .inTransaction ∧ s.nextState = .idle) ∨
    (s.nextState = .released ∧ (decode s.cur = .ok .teardown ∨ s.aborted = true)) := by
  obtain ha | ha := Bool.eq_false_or_eq_true s.aborted
  · exact .inr (.inr ⟨(h.aborted_run hp ha).1, .inr ha⟩)
  have hnext := h.next_state hp ha
  have hread (hr : isReadWord s.cur = true) (ho : opField s.cur ≠ 0x4#4) :
      s.aborted = false ∧ isReadWord s.cur = true ∧ s.state = .inTransaction ∧ s.nextState = .idle :=
    ⟨ha, hr, h.state_eq_inTransaction hp hr, hnext.trans (if_neg ho)⟩
  obtain ⟨rfl, ho⟩ | ⟨rfl, ho⟩ | ⟨rfl, ho⟩ | ⟨rfl, ho⟩ := decode_cases hd
  · have hidle : s.nextState = .idle := hnext.trans (if_neg (by simp [ho]))
    exact .inl ⟨ha, hd, hidle,
      state_unowned (hidle ▸ hne.symm) (h.state_ne_inTransaction (isReadWord_of_decode hd))⟩
  · exact .inr (.inl (hread (isReadWord_of_decode hd) (by simp [ho])))
  · exact .inr (.inl (hread (isReadWord_of_decode hd) (by simp [ho])))
  · exact .inr (.inr ⟨hnext.trans (if_pos ho), .inl hd⟩)

/-- In RUN the invariant leaves no unassigned OP. -/
theorem Inv.not_unassigned {s : State} {e : DecodeError} (h : Inv s) (hp : s.phase = .run) :
    decode s.cur ≠ .error e := fun he => by
  obtain ⟨i, hi⟩ := h.run_assigned hp
  simp [hi] at he

/-- The one check step that changes STATE is that of a read that passes. -/
theorem checkOf_state_ne {s : State} {i : Instr} (hd : decode s.cur = .ok i)
    (hne : (checkOf i s).state ≠ s.state) :
    isReadWord s.cur = true ∧ chOperand s.cur < 2 ∧ s.state = .idle ∧ (checkOf i s).state = .inTransaction := by
  obtain ⟨c, -, hfail⟩ | hpass := checkOf_cases hd
  · rw [hfail] at hne
    exact absurd rfl hne
  · generalize checkOf i s = t at hpass hne ⊢
    cases hpass with
    | setup => exact absurd rfl hne
    | read hread hidle hch => exact ⟨hread, hch, hidle, rfl⟩
    | teardown => exact absurd rfl hne

/-- Settles O48: a reset leaves UNINITIALIZED; else STATE changes at a read's check that passes or at a
completion. -/
theorem lifecycleTransitions : Obligations.LifecycleTransitions := by
  intro s t hinv hstep hne
  by_cases hn : ResetMove s
  · exact .inl ⟨hn, (reset_of_resetMove hn hstep).1 ▸ rfl⟩
  obtain ⟨hmoves, hc⟩ := controllerMoves_of_change hn hstep (.inl hne)
  refine .inr ⟨hmoves, ?_⟩
  obtain ⟨-, rfl⟩ | ⟨hp, ⟨i, hd, rfl⟩ | ⟨_, -, rfl⟩⟩ | ⟨hp, hq, ⟨i, hd, rfl⟩ | ⟨_, hd, -⟩⟩ |
    ⟨-, e, tag, rest, -, rfl⟩ := controllerTurn_cases hc
  · exact absurd rfl hne
  · obtain ⟨hread, hch, hidle, ht⟩ := checkOf_state_ne hd hne
    rw [takeMove_cur] at hch
    exact .inr (.inl ⟨hp, hread, hch, hidle, ht⟩)
  · exact absurd rfl hne
  · obtain ⟨ha, hset, hnext, hs⟩ | ⟨ha, hread, hs, hnext⟩ | ⟨hnext, hcause⟩ :=
      completion_transition hinv hp hd hne
    · exact .inl ⟨hp, hq, ha, hset, hnext, hs⟩
    · exact .inr (.inr (.inl ⟨hp, hq, ha, hread, hs, hnext⟩))
    · exact .inr (.inr (.inr ⟨hp, hq, hnext, hcause⟩))
  · exact absurd hd (hinv.not_unassigned hp)
  · exact absurd (eventStep_keeps_lifecycle e tag rest (takeMove s)).1 hne

/-! ## Result codes (60_exceptions.md R201 to R206) -/

theorem decode_error_eq {w : Word} {e : DecodeError} (h : decode w = .error e) :
    e = .unassignedOp (opField w) := by
  unfold decode at h
  split at h <;> cases h
  rfl

/-- A TEARDOWN is never aborted (60_exceptions.md R206). -/
theorem Inv.not_teardown_of_aborted {s : State} (h : Inv s) (hp : s.phase = .run) (ha : s.aborted = true) :
    opField s.cur ≠ 0x4#4 := fun ho => by
  simp [(h.teardown_run hp ho).1] at ha

/-- Settles O50: a check that fails writes its cause's code and touches no flag or event; a completion writes OK,
or BUS_ERROR after an abort, which skips the command's own completion. -/
theorem errorCodesHaveOnlyTheirCauses : Obligations.ErrorCodesHaveOnlyTheirCauses := by
  intro s t hinv hstep hne
  refine or_iff_not_imp_left.mpr fun hn => ?_
  obtain ⟨hmoves, hc⟩ := controllerMoves_of_change hn hstep (.inr (.inl hne))
  refine ⟨hmoves, ?_⟩
  obtain ⟨-, rfl⟩ | ⟨hp, ⟨i, hd, rfl⟩ | ⟨e, hd, rfl⟩⟩ | ⟨hp, hq, ⟨i, -, rfl⟩ | ⟨_, hd, -⟩⟩ |
    ⟨-, e, tag, rest, -, rfl⟩ := controllerTurn_cases hc
  · exact absurd rfl hne
  · obtain ⟨c, hcause, hfail⟩ | hpass := checkOf_cases hd
    · rw [hfail]
      refine ⟨rfl, rfl, ?_⟩
      cases hcause with
      | configurationError hset hbad => exact ⟨hp, hset, rfl, rfl, hbad⟩
      | notInitialized hread hs =>
        exact ⟨hp, hread, state_unowned hs (hinv.state_ne_inTransaction_of_check hp), rfl, rfl⟩
      | invalidChannel hread hs hch => exact ⟨hp, hread, hs, hch, rfl, rfl⟩
    · exact absurd hpass.keeps.2.1 hne
  · obtain rfl := decode_error_eq hd
    exact ⟨rfl, rfl, hp, hd, rfl, rfl⟩
  · obtain ha | ha := Bool.eq_false_or_eq_true s.aborted
    · rw [completionStep_aborted (s := takeMove s) _ ha]
      exact ⟨rfl, rfl, hp, hq, ha, hinv.not_teardown_of_aborted hp ha, (hinv.aborted_run hp ha).1, rfl, rfl⟩
    · obtain ⟨hrel, hovr⟩ := completionStep_keeps_relerr_ovr i (takeMove s)
      refine ⟨hrel, hovr, ?_⟩
      rw [completionStep_ok (s := takeMove s) _ ha]
      exact ⟨hp, hq, ha⟩
  · exact absurd hd (hinv.not_unassigned hp)
  · exact absurd (eventStep_keeps_err e tag rest (takeMove s)) hne

end Sys2Proof.Machine

/-! # The event trace and progress (40_interfaces.md R102, R106, R110; 41_command_engine.md R129)

What one event step does to the trace and to `seq`, and from that: events are issued from `seq` alone, and every
Controller turn of a command lowers what is left of it or waits. -/

namespace Sys2Proof.Machine

open Sys2Proof

/-! ## The trace over an event step (R110) -/

/-- The state after a turn in which the operation is not answered; `b` says whether it was taken in this turn
(40_interfaces.md R102). -/
def waitTurn (b : Bool) (s : State) : State :=
  { consumeReply s with handshake := waitHandshake b s.handshake }

@[simp] theorem waitTurn_seq (b : Bool) (s : State) : (waitTurn b s).seq = s.seq := consumeReply_seq s
@[simp] theorem waitTurn_trace (b : Bool) (s : State) : (waitTurn b s).trace = s.trace := consumeReply_trace s
@[simp] theorem waitTurn_phase (b : Bool) (s : State) : (waitTurn b s).phase = s.phase := consumeReply_phase s
@[simp] theorem waitTurn_handshake (b : Bool) (s : State) :
    (waitTurn b s).handshake = waitHandshake b s.handshake := rfl

theorem waitHandshake_taken (b : Bool) : waitHandshake b .taken = .taken := by cases b <;> rfl

/-- A pin operation's step without an answer moves only the exchange; one with an answer closes the entry. -/
theorem pinOpStep_trace_cases (e : Event) (tag : Tag) (rest : List (Event × Tag)) (s : State) :
    (isAnswer (nextReply s) = false ∧ ∃ b, pinOpStep e tag rest s = waitTurn b s) ∨
    (∃ a, nextReply s = .answered a ∧ (pinOpStep e tag rest s).trace = s.trace ++ [⟨e, some a⟩] ∧
      (pinOpStep e tag rest s).handshake = .idle) := by
  cases h : nextReply s with
  | notReady => exact .inl ⟨rfl, false, pinOpStep_notReady h e tag rest⟩
  | pending => exact .inl ⟨rfl, true, pinOpStep_pending h e tag rest⟩
  | answered a =>
    refine .inr ⟨a, rfl, ?_⟩
    rw [pinOpStep_answered h]
    cases ha : a.err <;> cases tag <;> cases hr : e.isRead <;> simp [finishPinOp, pinError, ha, hr]

theorem eventStep_of_delay {e : Event} (h : e.isPinOp = false) (tag : Tag) (rest : List (Event × Tag))
    (s : State) : eventStep e tag rest s = retire e rest none s := by
  obtain ⟨ns, rfl⟩ := exists_delay_of_not_isPinOp h
  rfl

/-- What an event step leaves of the event trace: a Delay ends it, a pin operation ends it from when it is taken,
with its answer once given. -/
theorem eventStep_eventTrace {s : State} {e : Event} {tag : Tag} {rest : List (Event × Tag)}
    (hq : s.seq = (e, tag) :: rest) (h : (eventStep e tag rest s).seq ≠ s.seq ∨
      (eventStep e tag rest s).handshake = .taken) :
    ∃ answer, eventTrace (eventStep e tag rest s) = s.trace ++ [⟨e, answer⟩] ∧
      (answer = none ↔ e.isPinOp = false ∨ (eventStep e tag rest s).handshake = .taken) ∧
      ∀ a, answer = some a → nextReply s = .answered a := by
  cases he : e.isPinOp with
  | false =>
    rw [eventStep_of_delay he] at h ⊢
    exact ⟨none, eventTrace_of_not_taken (by simp), by simp, nofun⟩
  | true =>
    rw [eventStep_pinOp he] at h ⊢
    obtain ⟨-, b, hw⟩ | ⟨a, ha, htrace, hidle⟩ := pinOpStep_trace_cases e tag rest s
    · rw [hw] at h ⊢
      have htaken : waitHandshake b s.handshake = .taken := by simpa using h
      refine ⟨none, ?_, by simp [htaken], nofun⟩
      rw [eventTrace_taken htaken ((waitTurn_seq b s).trans hq), waitTurn_trace]
    · refine ⟨some a, ?_, by simp [hidle], fun _ h => Option.some.inj h ▸ ha⟩
      rw [eventTrace_of_not_taken (by simp [hidle]), htrace]

/-! ## The trace over a step (R106, R110) -/

theorem checkOf_keeps_trace {s : State} {i : Instr} (hd : decode s.cur = .ok i) :
    (checkOf i s).trace = s.trace ∧ (checkOf i s).handshake = s.handshake := by
  obtain ⟨c, -, h⟩ | h := checkOf_cases hd
  · rw [h]
    exact ⟨rfl, rfl⟩
  · generalize checkOf i s = t at h ⊢
    cases h <;> exact ⟨rfl, rfl⟩

theorem completionStep_keeps_trace (i : Instr) (s : State) :
    (completionStep (onOkOf i) s).trace = s.trace ∧
      (completionStep (onOkOf i) s).handshake = s.handshake := by
  obtain ⟨r, g, -, h⟩ := completionStep_frame i s
  rw [h]
  exact ⟨rfl, rfl⟩

theorem hostAccess_keeps_exchange {s : State} (hr : s.rstN = true) (a : HostAccess) :
    (hostAccess a s).trace = s.trace ∧ (hostAccess a s).handshake = s.handshake ∧
      (hostAccess a s).seq = s.seq := by
  obtain ⟨w, -, h⟩ | ⟨w, -, h⟩ | ⟨-, -, p, d, o, r, h⟩ := hostAccess_cases hr a
  · cases hb : s.busy <;> simp [h, writeCmd, hb]
  · simp [h]
  · simp [h]

theorem eventTrace_congr {s t : State} (ht : t.trace = s.trace) (hh : t.handshake = s.handshake)
    (hq : t.seq = s.seq) : eventTrace t = eventTrace s := by
  simp only [eventTrace, inFlight, ht, hh, hq]

/-- In RUN with an event left the Controller's turn is that event's step, whatever CUR holds. -/
theorem controllerTurn_event {s : State} {e : Event} {tag : Tag} {rest : List (Event × Tag)}
    (hp : s.phase = .run) (hq : s.seq = (e, tag) :: rest) :
    controllerTurn s = .next (eventStep e tag rest s) := by
  rw [controllerTurn_eq]
  cases decode s.cur with
  | ok i => exact congrArg Host.Outcome.next (commandStep_event _ _ hp hq)
  | error e' => exact congrArg Host.Outcome.next (commandStep_event _ _ hp hq)

/-- A Controller turn that is no event step leaves the closed trace and the exchange. -/
theorem controllerTurn_trace_cases {s t : State} (h : controllerTurn s = .next t) :
    (t.trace = s.trace ∧ t.handshake = s.handshake ∧ (s.phase = .run → s.seq = [])) ∨
    (s.phase = .run ∧ ∃ e tag rest, s.seq = (e, tag) :: rest ∧ t = eventStep e tag rest s) := by
  obtain ⟨hp, rfl⟩ | ⟨hp, ⟨i, hd, rfl⟩ | ⟨_, -, rfl⟩⟩ | ⟨-, hq, ⟨i, -, rfl⟩ | ⟨_, -, rfl⟩⟩ | hevent :=
    controllerTurn_cases h
  · exact .inl ⟨rfl, rfl, by simp [hp]⟩
  · obtain ⟨ht, hh⟩ := checkOf_keeps_trace hd
    exact .inl ⟨ht, hh, by simp [hp]⟩
  · exact .inl ⟨rfl, rfl, by simp [hp]⟩
  · obtain ⟨ht, hh⟩ := completionStep_keeps_trace i s
    exact .inl ⟨ht, hh, fun _ => hq⟩
  · obtain ⟨ht, hh⟩ := completionStep_keeps_trace .setup s
    exact .inl ⟨ht, hh, fun _ => hq⟩
  · exact .inr hevent

/-- What a step that is no reset does to the trace: nothing, or an event step of the Controller. -/
theorem step_trace_cases {s t : State} (hn : ¬ ResetMove s) (h : step s = .next t) :
    (eventTrace t = eventTrace s ∧ t.trace = s.trace) ∨
    (ControllerMoves s ∧ controllerTurn (takeMove s) = .next t) := by
  obtain ⟨hr, ⟨hm, hc⟩ | ⟨a, -, rfl⟩ | ⟨-, rfl⟩ | ⟨_, n, -, -, rfl⟩⟩ := step_cases_of_not_reset hn h
  · exact .inr ⟨⟨hr, hm⟩, hc⟩
  · obtain ⟨ht, hh, hq⟩ := hostAccess_keeps_exchange (s := takeMove s) hr a
    exact .inl ⟨eventTrace_congr ht hh hq, ht⟩
  · exact .inl ⟨rfl, rfl⟩
  · exact .inl ⟨rfl, rfl⟩

/-- The closed entries grow by the first event of `seq` at most. -/
theorem eventStep_trace (e : Event) (tag : Tag) (rest : List (Event × Tag)) (s : State) :
    (eventStep e tag rest s).trace = s.trace ∨
    ∃ answer, (eventStep e tag rest s).trace = s.trace ++ [⟨e, answer⟩] := by
  cases he : e.isPinOp with
  | false => exact .inr ⟨none, by rw [eventStep_of_delay he]; rfl⟩
  | true =>
    rw [eventStep_pinOp he]
    obtain ⟨-, b, hw⟩ | ⟨a, -, htrace, -⟩ := pinOpStep_trace_cases e tag rest s
    · exact .inl (by rw [hw, waitTurn_trace])
    · exact .inr ⟨some a, htrace⟩

/-- From a state with Inv the event step leaves the event trace, adds the event, or fills its answer in. -/
theorem Inv.eventStep_eventTrace {s : State} {e : Event} {tag : Tag} {rest : List (Event × Tag)} (h : Inv s)
    (hq : s.seq = (e, tag) :: rest) :
    eventTrace (eventStep e tag rest s) = eventTrace s ∨ ∃ answer,
      (s.handshake ≠ .taken ∧ eventTrace (eventStep e tag rest s) = eventTrace s ++ [⟨e, answer⟩]) ∨
      (s.handshake = .taken ∧ eventTrace s = s.trace ++ [⟨e, none⟩] ∧
        eventTrace (eventStep e tag rest s) = s.trace ++ [⟨e, answer⟩] ∧
        ∃ a, nextReply s = .answered a ∧ answer = some a) := by
  cases he : e.isPinOp with
  | false =>
    have hidle : s.handshake ≠ .taken := fun ht => by
      obtain ⟨-, e', _, _, hq', he'⟩ := h.waiting (by simp [ht])
      obtain ⟨⟨rfl, -⟩, -⟩ : (e = e' ∧ _) ∧ _ := by simpa [hq] using hq'
      simp [he] at he'
    rw [eventStep_of_delay he, eventTrace_of_not_taken hidle, eventTrace_of_not_taken (by simp)]
    exact .inr ⟨none, .inl ⟨hidle, rfl⟩⟩
  | true =>
    rw [eventStep_pinOp he]
    obtain ⟨-, b, hw⟩ | ⟨a, ha, htrace, hidle⟩ := pinOpStep_trace_cases e tag rest s
    · rw [hw]
      by_cases ht : s.handshake = .taken
      · exact .inl (eventTrace_congr (waitTurn_trace b s)
          (by rw [waitTurn_handshake, ht, waitHandshake_taken]) (waitTurn_seq b s))
      · rw [eventTrace_of_not_taken ht]
        by_cases ht' : (waitTurn b s).handshake = .taken
        · refine .inr ⟨none, .inl ⟨ht, ?_⟩⟩
          rw [eventTrace_taken ht' ((waitTurn_seq b s).trans hq), waitTurn_trace]
        · exact .inl (by rw [eventTrace_of_not_taken ht', waitTurn_trace])
    · rw [eventTrace_of_not_taken (s := pinOpStep e tag rest s) (by simp [hidle]), htrace]
      by_cases ht : s.handshake = .taken
      · exact .inr ⟨some a, .inr ⟨ht, eventTrace_taken ht hq, rfl, a, ha, rfl⟩⟩
      · exact .inr ⟨some a, .inl ⟨ht, by rw [eventTrace_of_not_taken ht]⟩⟩

/-- Without an event left in RUN the invariant leaves nothing in flight. -/
theorem Inv.not_taken {s : State} (h : Inv s) (hq : s.phase = .run → s.seq = []) :
    s.handshake ≠ .taken := fun ht => by
  obtain ⟨hp, e, _, _, hq', -⟩ := h.waiting (by simp [ht])
  simp [hq hp] at hq'

/-- Settles O52: a reset closes what it cuts off, other agents leave the trace, and the Controller's turn changes
it only in an event step. -/
theorem eventsIssuedOnlyFromSeq : Obligations.EventsIssuedOnlyFromSeq := by
  refine ⟨fun s t hstep hne => ?_, fun s t hinv hstep => ?_, fun s t e tag rest hc hp hq hstep h => ?_⟩
  · by_cases hn : ResetMove s
    · exact .inl ⟨hn, (reset_of_resetMove hn hstep).2⟩
    obtain ⟨-, ht⟩ | ⟨hmoves, hc⟩ := step_trace_cases hn hstep
    · exact absurd ht hne
    obtain ⟨ht, -, -⟩ | ⟨hp, e, tag, rest, hq, rfl⟩ := controllerTurn_trace_cases hc
    · exact absurd ht hne
    · obtain ht | ⟨answer, ht⟩ := eventStep_trace e tag rest (takeMove s)
      · exact absurd ht hne
      · exact .inr ⟨hmoves, hp, e, tag, rest, answer, hq, ht⟩
  · by_cases hn : ResetMove s
    · obtain ⟨hreset, ht⟩ := reset_of_resetMove hn hstep
      have hidle : t.handshake = .idle := hreset ▸ rfl
      exact .inl (by rw [eventTrace_of_not_taken (by simp [hidle]), ht])
    obtain ⟨ht, -⟩ | ⟨hmoves, hc⟩ := step_trace_cases hn hstep
    · exact .inl ht
    obtain ⟨ht, hh, hq⟩ | ⟨hp, e, tag, rest, hq, rfl⟩ := controllerTurn_trace_cases hc
    · have hidle : s.handshake ≠ .taken := hinv.not_taken hq
      left
      rw [eventTrace_of_not_taken hidle, eventTrace_of_not_taken (hh ▸ hidle), ht, takeMove_trace]
    · have htake : Inv (takeMove s) := hinv.after_takeMove hmoves.1
      exact (htake.eventStep_eventTrace hq).imp_right fun ⟨answer, h⟩ =>
        ⟨hmoves, hp, e, tag, rest, answer, hq, h⟩
  · have hturn := (step_controller hc).trans (controllerTurn_event (s := takeMove s) hp hq)
    obtain rfl := Host.Outcome.next.inj (hturn.symm.trans hstep)
    exact eventStep_eventTrace (s := takeMove s) hq h

end Sys2Proof.Machine

/-! # Progress (41_command_engine.md R129, R130)

Every Controller turn of a command lowers what is left of it, or waits for an answer; so a command completes once
enough answers come. -/

namespace Sys2Proof.Machine

open Sys2Proof

/-! ## What is left of a list of events -/

/-- The events still to come at most: those listed, and those an abort can add (R126). -/
def eventsLeft (q : List (Event × Tag)) : Nat := q.length + abortEventsLeft q

/-- The answers still needed at most: those of the listed operations, and of an abort's six. -/
def answersLeft (q : List (Event × Tag)) : Nat := (pinOps (q.map Prod.fst)).length + abortEventsLeft q / 2

theorem turnsLeft_of_run {s : State} (h : s.phase = .run) : turnsLeft s = eventsLeft s.seq + 1 :=
  turnsLeft_run h

theorem eventsLeft_safeRelease (a : Pins) (d : Word) : eventsLeft (safeRelease a d) = 12 := rfl

theorem answersLeft_safeRelease (a : Pins) (d : Word) : answersLeft (safeRelease a d) = 6 := by
  have habort : abortEventsLeft (safeRelease a d) = 0 := rfl
  rw [answersLeft, habort]
  rfl

theorem eventsLeft_tail_lt (x : Event × Tag) (q : List (Event × Tag)) : eventsLeft q < eventsLeft (x :: q) := by
  have := abortEventsLeft_tail_le x q
  simp only [eventsLeft, List.length_cons]
  omega

theorem eventsLeft_normal (e : Event) (q : List (Event × Tag)) : 12 < eventsLeft ((e, .normal) :: q) := by
  simp only [eventsLeft, abortEventsLeft_normal, List.length_cons]
  omega

theorem answersLeft_tail_le (x : Event × Tag) (q : List (Event × Tag)) : answersLeft q ≤ answersLeft (x :: q) := by
  have habort := Nat.div_le_div_right (c := 2) (abortEventsLeft_tail_le x q)
  have hops : (pinOps (q.map Prod.fst)).length ≤ (pinOps ((x :: q).map Prod.fst)).length :=
    ((List.sublist_cons_self _ _).filter _).length_le
  exact Nat.add_le_add hops habort

theorem answersLeft_tail_lt {e : Event} (he : e.isPinOp = true) (tag : Tag) (q : List (Event × Tag)) :
    answersLeft q < answersLeft ((e, tag) :: q) := by
  have habort := Nat.div_le_div_right (c := 2) (abortEventsLeft_tail_le (e, tag) q)
  have hops : (pinOps (((e, tag) :: q).map Prod.fst)).length = (pinOps (q.map Prod.fst)).length + 1 := by
    simp [pinOps, he]
  simp only [answersLeft, hops]
  omega

theorem answersLeft_normal {e : Event} (he : e.isPinOp = true) (q : List (Event × Tag)) :
    6 < answersLeft ((e, .normal) :: q) := by
  have hops : (pinOps (((e, Tag.normal) :: q).map Prod.fst)).length = (pinOps (q.map Prod.fst)).length + 1 := by
    simp [pinOps, he]
  simp only [answersLeft, abortEventsLeft_normal, hops]
  omega

theorem abortEventsLeft_half_le (q : List (Event × Tag)) : abortEventsLeft q / 2 ≤ 6 :=
  Nat.div_le_div_right (c := 2) (abortEventsLeft_le q)

theorem length_transaction (ch : Nat) (a : Pins) (d : Word) : (transaction ch a d).length = 112 := by
  rw [transaction, tagged, List.length_map, length_transactionEvents]

theorem length_pinOps_transaction (ch : Nat) (a : Pins) (d : Word) :
    (pinOps ((transaction ch a d).map Prod.fst)).length = 64 := by
  rw [transaction, map_fst_tagged, length_pinOps_transactionEvents]

theorem length_setupEvents_le (s : State) (a : Pins) (d : Word) :
    (setupPrelude s ++ configure a d).length ≤ 18 ∧
      (pinOps ((setupPrelude s ++ configure a d).map Prod.fst)).length ≤ 9 := by
  unfold setupPrelude
  split
  · exact ⟨le_rfl, le_rfl⟩
  · exact ⟨show 6 ≤ 18 by decide, show 3 ≤ 9 by decide⟩

theorem length_teardownEvents_le (s : State) :
    (teardownEvents s).length ≤ 12 ∧ (pinOps ((teardownEvents s).map Prod.fst)).length ≤ 6 := by
  obtain h | h := teardownEvents_cases s <;> rw [h]
  · exact ⟨le_rfl, le_rfl⟩
  · exact ⟨Nat.zero_le _, Nat.zero_le _⟩

/-- What a check that passes lists is no more than a transaction (43_transaction.md R177). -/
theorem CheckPasses.bounds {s t : State} (h : CheckPasses s t) :
    eventsLeft t.seq ≤ 124 ∧ answersLeft t.seq ≤ 70 := by
  have hbound {q : List (Event × Tag)} (hlen : q.length ≤ 112)
      (hops : (pinOps (q.map Prod.fst)).length ≤ 64) : eventsLeft q ≤ 124 ∧ answersLeft q ≤ 70 :=
    ⟨Nat.add_le_add hlen (abortEventsLeft_le q), Nat.add_le_add hops (abortEventsLeft_half_le q)⟩
  cases h with
  | setup =>
    obtain ⟨hlen, hops⟩ := length_setupEvents_le s s.cfgPins s.cfgDelay
    exact hbound (hlen.trans (by decide)) (hops.trans (by decide))
  | read => exact hbound (length_transaction _ _ _).le (length_pinOps_transaction _ _ _).le
  | teardown =>
    obtain ⟨hlen, hops⟩ := length_teardownEvents_le s
    exact hbound (hlen.trans (by decide)) (hops.trans (by decide))

/-! ## An event step waits or advances -/

theorem awaitsAnswer_iff {s : State} {e : Event} {tag : Tag} {rest : List (Event × Tag)}
    (hp : s.phase = .run) (hq : s.seq = (e, tag) :: rest) :
    AwaitsAnswer s ↔ e.isPinOp = true ∧ isAnswer (nextReply s) = false := by
  simp [AwaitsAnswer, hp, hq]

/-- What an event step does to `seq`: nothing while it awaits the answer; else the event leaves it, or an abort
replaces what is left. -/
theorem eventStep_seq_cases {s : State} {e : Event} {tag : Tag} {rest : List (Event × Tag)}
    (hp : s.phase = .run) (hq : s.seq = (e, tag) :: rest) :
    (AwaitsAnswer s ∧ ∃ b, eventStep e tag rest s = waitTurn b s) ∨
    (¬ AwaitsAnswer s ∧ (∃ answer, (eventStep e tag rest s).trace = s.trace ++ [⟨e, answer⟩]) ∧
      ((eventStep e tag rest s).seq = rest ∨ (e.isPinOp = true ∧ tag = .normal ∧
        (eventStep e tag rest s).seq = safeRelease s.actPins s.actDelay))) := by
  rw [awaitsAnswer_iff hp hq]
  cases he : e.isPinOp with
  | false =>
    rw [eventStep_of_delay he]
    exact .inr ⟨nofun, ⟨none, rfl⟩, .inl rfl⟩
  | true =>
    rw [eventStep_pinOp he]
    obtain ⟨hw, hb⟩ | ⟨a, ha, htrace, -⟩ := pinOpStep_trace_cases e tag rest s
    · exact .inl ⟨⟨rfl, hw⟩, hb⟩
    · refine .inr ⟨by simp [ha, isAnswer], ⟨some a, htrace⟩, ?_⟩
      rw [pinOpStep_answered ha]
      cases herr : a.err with
      | true => cases tag <;> simp [finishPinOp, pinError, herr]
      | false => cases hr : e.isRead <;> simp [finishPinOp, herr, hr]

theorem eventStep_eventsLeft_lt {s : State} {e : Event} {tag : Tag} {rest : List (Event × Tag)}
    (hp : s.phase = .run) (hq : s.seq = (e, tag) :: rest) (hn : ¬ AwaitsAnswer s) :
    eventsLeft (eventStep e tag rest s).seq < eventsLeft s.seq := by
  obtain ⟨hw, -⟩ | ⟨-, -, h | ⟨-, rfl, h⟩⟩ := eventStep_seq_cases hp hq
  · exact absurd hw hn
  · rw [h, hq]
    exact eventsLeft_tail_lt _ _
  · rw [h, hq, eventsLeft_safeRelease]
    exact eventsLeft_normal e rest

/-! ## Every Controller turn (R129) -/

theorem not_awaitsAnswer_of_check {s : State} (hp : s.phase = .check) : ¬ AwaitsAnswer s := by
  simp [AwaitsAnswer, hp]

theorem not_awaitsAnswer_of_done {s : State} (hq : s.seq = []) : ¬ AwaitsAnswer s := by
  simp [AwaitsAnswer, hq]

theorem controllerTurn_progress {s t : State} (h : controllerTurn s = .next t) (hp : s.phase ≠ .none) :
    (AwaitsAnswer s → turnsLeft t = turnsLeft s ∧ t.seq = s.seq) ∧
    (¬ AwaitsAnswer s → turnsLeft t < turnsLeft s) := by
  have hends {u : State} (hn : ¬ AwaitsAnswer s) (hu : u.phase = .none) :
      (AwaitsAnswer s → turnsLeft u = turnsLeft s ∧ u.seq = s.seq) ∧
      (¬ AwaitsAnswer s → turnsLeft u < turnsLeft s) := by
    refine ⟨fun hw => absurd hw hn, fun _ => ?_⟩
    rw [turnsLeft_none hu]
    exact Nat.pos_of_ne_zero (mt (turnsLeft_eq_zero s).mp hp)
  obtain ⟨hp', -⟩ | ⟨hc, ⟨i, hd, rfl⟩ | ⟨_, -, rfl⟩⟩ | ⟨-, hq, ⟨i, -, rfl⟩ | ⟨_, -, rfl⟩⟩ |
    ⟨hr, e, tag, rest, hq, rfl⟩ := controllerTurn_cases h
  · exact absurd hp' hp
  · obtain ⟨c, -, hfail⟩ | hpass := checkOf_cases hd
    · rw [hfail]
      exact hends (not_awaitsAnswer_of_check hc) rfl
    · refine ⟨fun hw => absurd hw (not_awaitsAnswer_of_check hc), fun _ => ?_⟩
      rw [turnsLeft_check hc, turnsLeft_of_run hpass.keeps.1]
      exact Nat.lt_succ_of_le (Nat.succ_le_succ hpass.bounds.1)
  · exact hends (not_awaitsAnswer_of_check hc) rfl
  · exact hends (not_awaitsAnswer_of_done hq) rfl
  · exact hends (not_awaitsAnswer_of_done hq) rfl
  · have hphase : (eventStep e tag rest s).phase = s.phase := (eventStep_keeps_lifecycle e tag rest s).2.2
    refine ⟨fun hw => ?_, fun hn => ?_⟩
    · obtain ⟨-, b, h⟩ | ⟨hn, -⟩ := eventStep_seq_cases hr hq
      · have hseq : (eventStep e tag rest s).seq = s.seq := by rw [h, waitTurn_seq]
        exact ⟨turnsLeft_congr hphase hseq, hseq⟩
      · exact absurd hw hn
    · rw [turnsLeft_of_run hr, turnsLeft_of_run (hphase.trans hr)]
      exact Nat.succ_lt_succ (eventStep_eventsLeft_lt hr hq hn)

/-- While BUSY a host access is an update of the fields it may write. -/
theorem hostAccess_of_busy {s : State} (hb : s.busy = true) (a : HostAccess) :
    ∃ p d o g r v x, hostAccess a s = { s with
      cfgPins := p, cfgDelay := d, cfgOpt := o, glitch := g, relerr := r, ovr := v, rdata := x } := by
  have h := hostCannotTouchRunningCommand s a hb
  generalize hostAccess a s = t at h ⊢
  exact ⟨t.cfgPins, t.cfgDelay, t.cfgOpt, t.glitch, t.relerr, t.ovr, t.rdata, by rw [← h]⟩

/-- Settles O59: the Controller's turn as above; the other agents leave PHASE and `seq`, and a reset clears
them. -/
theorem everyControllerTurnProgresses : Obligations.EveryControllerTurnProgresses := by
  intro s t hr hstep
  refine ⟨turnsLeft_eq_zero s, fun hm hp => ?_, fun a hm hb => ?_, fun a hm => ?_, fun hm => ?_, fun hm => ?_⟩
  · exact controllerTurn_progress (s := takeMove s) ((step_controller ⟨hr, hm⟩).symm.trans hstep) hp
  · obtain rfl := Host.Outcome.next.inj ((step_host hr hm).symm.trans hstep)
    obtain ⟨p, d, o, g, r, v, x, h⟩ := hostAccess_of_busy (s := takeMove s) hb a
    rw [h]
    rfl
  · rw [step_strayAnswer hm, underReset_of_rstN hr] at hstep
    cases ho : s.orphans with
    | zero => simp [strayAnswer_of_unsolicited (s := takeMove s) ho] at hstep
    | succ n =>
      rw [strayAnswer_of_owed (s := takeMove s) ho] at hstep
      exact Host.Outcome.next.inj hstep ▸ rfl
  · exact Host.Outcome.next.inj ((step_rst hr hm).symm.trans hstep) ▸ rfl
  · exact Host.Outcome.next.inj ((step_rst hr hm).symm.trans hstep) ▸ rfl

end Sys2Proof.Machine

/-! # Every accepted command completes (41_command_engine.md R129, R130)

A command in progress keeps a bound on the steps, the answers and the events it still needs; every step of the
Controller, of the host or of the waiting exchange lowers the steps. -/

namespace Sys2Proof.Machine

open Sys2Proof

/-! ## What a command in progress still needs -/

/-- The answers among the replies given in advance. -/
def answersGiven (s : State) : Nat := (s.replies.filter isAnswer).length

/-- The waits among the replies given in advance. -/
def waitsGiven (s : State) : Nat := (s.replies.filter (fun r => !isAnswer r)).length

/-- The answers a command still needs at most; a check step may start a transaction (R177). -/
def answersNeeded (s : State) : Nat :=
  match s.phase with
  | .none => 0
  | .check => 70
  | .run => answersLeft s.seq

/-- The steps to the end of a command at most, the agenda's moves and the waits among them. -/
def stepsNeeded (s : State) : Nat := turnsLeft s + s.agenda.length + waitsGiven s

/-- How long the event trace can be at the end of the command. -/
def traceBound (s : State) : Nat :=
  match s.phase with
  | .none => (eventTrace s).length
  | .check => (eventTrace s).length + 124
  | .run => s.trace.length + eventsLeft s.seq

/-- A command in progress, with answers enough to end it, and none but the Controller and the host to move. -/
structure Underway (s : State) : Prop where
  rstN : s.rstN = true
  busy : s.busy = true
  not_none : s.phase ≠ .none
  agenda : ∀ m ∈ s.agenda, m = .controller ∨ ∃ a, m = .host a
  answers : answersNeeded s ≤ answersGiven s

/-- The command is over. -/
def Finished (s : State) : Prop := s.phase = .none ∧ s.busy = false

theorem answersNeeded_of_run {s : State} (h : s.phase = .run) : answersNeeded s = answersLeft s.seq := by
  simp [answersNeeded, h]

theorem answersNeeded_of_check {s : State} (h : s.phase = .check) : answersNeeded s = 70 := by
  simp [answersNeeded, h]

theorem traceBound_of_none {s : State} (h : s.phase = .none) : traceBound s = (eventTrace s).length := by
  simp [traceBound, h]

theorem traceBound_of_check {s : State} (h : s.phase = .check) :
    traceBound s = (eventTrace s).length + 124 := by
  simp [traceBound, h]

theorem traceBound_of_run {s : State} (h : s.phase = .run) :
    traceBound s = s.trace.length + eventsLeft s.seq := by
  simp [traceBound, h]

theorem trace_length_le_eventTrace (s : State) : s.trace.length ≤ (eventTrace s).length := by
  simp [eventTrace]

theorem eventTrace_of_seq_nil {s : State} (h : s.seq = []) : eventTrace s = s.trace := by
  simp [eventTrace, inFlight, h]

/-! ## The replies -/

/-- While an answer is awaited and one is still given, the turn uses up a wait. -/
theorem replies_of_wait {s : State} (hw : isAnswer (nextReply s) = false) (hg : 0 < answersGiven s) :
    answersGiven (consumeReply s) = answersGiven s ∧ waitsGiven (consumeReply s) + 1 = waitsGiven s := by
  cases hr : s.replies with
  | nil => simp [answersGiven, hr] at hg
  | cons r rs =>
    rw [nextReply_cons hr] at hw
    simp [answersGiven, waitsGiven, consumeReply_cons hr, hr, hw]

/-- An answer uses up at most one answer and no wait. -/
theorem replies_of_answer {s : State} {a : PinAnswer} (ha : nextReply s = .answered a) :
    answersGiven s ≤ answersGiven (consumeReply s) + 1 ∧ waitsGiven (consumeReply s) = waitsGiven s := by
  cases hr : s.replies with
  | nil => simp [answersGiven, waitsGiven, consumeReply_nil hr, hr]
  | cons r rs =>
    rw [nextReply_cons hr] at ha
    subst ha
    simp [answersGiven, waitsGiven, consumeReply_cons hr, hr, List.filter_cons, isAnswer]

theorem eventStep_replies (e : Event) (tag : Tag) (rest : List (Event × Tag)) (s : State) :
    (eventStep e tag rest s).replies = if e.isPinOp then (consumeReply s).replies else s.replies := by
  obtain ⟨he, h⟩ | ⟨he, ⟨_, -, h⟩ | ⟨a, -, ⟨-, -, h⟩ | ⟨-, -, h⟩ | ⟨-, -, h⟩ | ⟨-, -, h⟩⟩⟩ :=
    eventStep_cases e tag rest s <;> simp [h, he]

theorem eventStep_keeps_moves (e : Event) (tag : Tag) (rest : List (Event × Tag)) (s : State) :
    (eventStep e tag rest s).rstN = s.rstN ∧ (eventStep e tag rest s).agenda = s.agenda := by
  obtain ⟨-, h⟩ | ⟨-, ⟨_, -, h⟩ | ⟨a, -, ⟨-, -, h⟩ | ⟨-, -, h⟩ | ⟨-, -, h⟩ | ⟨-, -, h⟩⟩⟩ :=
    eventStep_cases e tag rest s <;> simp [h]

/-! ## One step -/

/-- What a step leaves of a command in progress: its end, or less to do, within the same trace bound. -/
def StepsDown (s t : State) : Prop :=
  traceBound t ≤ traceBound s ∧ (Finished t ∨ (Underway t ∧ stepsNeeded t < stepsNeeded s))

theorem answersLeft_lt_of_pinOp {s : State} {e : Event} {tag : Tag} {rest : List (Event × Tag)}
    (hp : s.phase = .run) (hq : s.seq = (e, tag) :: rest) (he : e.isPinOp = true) (hn : ¬ AwaitsAnswer s) :
    answersLeft (eventStep e tag rest s).seq < answersLeft s.seq := by
  obtain ⟨hw, -⟩ | ⟨-, -, h | ⟨-, rfl, h⟩⟩ := eventStep_seq_cases hp hq
  · exact absurd hw hn
  · rw [h, hq]
    exact answersLeft_tail_lt he tag rest
  · rw [h, hq, answersLeft_safeRelease]
    exact answersLeft_normal he rest

/-- An event that leaves `seq` uses up an answer if it is an operation, no wait, and one step. -/
theorem Underway.stepsDown_of_advance {s : State} {e : Event} {tag : Tag} {rest : List (Event × Tag)}
    (h : Underway s) (hp : s.phase = .run) (hq : s.seq = (e, tag) :: rest) (hn : ¬ AwaitsAnswer s) :
    StepsDown s (eventStep e tag rest s) := by
  obtain ⟨hrst, hagenda⟩ := eventStep_keeps_moves e tag rest s
  obtain ⟨-, hbusy, hphase⟩ := eventStep_keeps_lifecycle e tag rest s
  have hlt := eventStep_eventsLeft_lt hp hq hn
  have hanswers := h.answers
  rw [answersNeeded_of_run hp] at hanswers
  obtain ⟨hleft, hwaits⟩ : answersLeft (eventStep e tag rest s).seq ≤ answersGiven (eventStep e tag rest s) ∧
      waitsGiven (eventStep e tag rest s) = waitsGiven s := by
    rw [answersGiven, waitsGiven, eventStep_replies]
    cases he : e.isPinOp with
    | false =>
      rw [eventStep_of_delay he]
      refine ⟨?_, rfl⟩
      rw [hq] at hanswers
      exact (answersLeft_tail_le _ _).trans hanswers
    | true =>
      obtain ⟨a, ha⟩ : ∃ a, nextReply s = .answered a := by
        rw [awaitsAnswer_iff hp hq] at hn
        cases hr : nextReply s <;> simp [he, hr, isAnswer] at hn ⊢
      obtain ⟨hgiven, hw⟩ := replies_of_answer ha
      have hless := answersLeft_lt_of_pinOp hp hq he hn
      exact ⟨by simp only [if_true]; unfold answersGiven at *; omega, hw⟩
  have hrun := hphase.trans hp
  refine ⟨?_, .inr ⟨⟨hrst.trans h.rstN, hbusy.trans h.busy, by simp [hrun], hagenda ▸ h.agenda, ?_⟩, ?_⟩⟩
  · obtain ⟨hw, -⟩ | ⟨-, ⟨answer, ht⟩, -⟩ := eventStep_seq_cases hp hq
    · exact absurd hw hn
    · rw [traceBound_of_run hp, traceBound_of_run hrun, ht, List.length_append, List.length_singleton]
      omega
  · rwa [answersNeeded_of_run hrun]
  · rw [stepsNeeded, stepsNeeded, turnsLeft_of_run hrun, turnsLeft_of_run hp, hagenda, hwaits]
    omega

/-- A turn that waits uses up one of the waits given, since an answer is still to come. -/
theorem Underway.stepsDown_waitTurn {s : State} (h : Underway s) (hw : AwaitsAnswer s) (b : Bool) :
    StepsDown s (waitTurn b s) := by
  obtain ⟨hp, ⟨e, tag, rest, hq, he⟩, hreply⟩ := hw
  have hneeded : 0 < answersNeeded s := by
    rw [answersNeeded_of_run hp, hq]
    exact Nat.zero_lt_of_lt (answersLeft_tail_lt he tag rest)
  obtain ⟨hgiven, hwaits⟩ := replies_of_wait hreply (hneeded.trans_le h.answers)
  have hrun : (waitTurn b s).phase = .run := (waitTurn_phase b s).trans hp
  refine ⟨?_, .inr ⟨⟨?_, ?_, by simp [hp], ?_, ?_⟩, ?_⟩⟩
  · rw [traceBound_of_run hp, traceBound_of_run hrun, waitTurn_trace, waitTurn_seq]
  · exact (consumeReply_rstN s).trans h.rstN
  · exact (consumeReply_busy s).trans h.busy
  · exact (consumeReply_agenda s).symm ▸ h.agenda
  · rw [answersNeeded_of_run hrun, waitTurn_seq, ← answersNeeded_of_run hp]
    exact h.answers.trans hgiven.ge
  · have hturns : turnsLeft (waitTurn b s) = turnsLeft s :=
      turnsLeft_congr (waitTurn_phase b s) (waitTurn_seq b s)
    have hagenda : (waitTurn b s).agenda = s.agenda := consumeReply_agenda s
    have hw : waitsGiven (waitTurn b s) + 1 = waitsGiven s := hwaits
    rw [stepsNeeded, stepsNeeded, hturns, hagenda]
    omega

theorem StepsDown.of_finished {s t : State} (h : Finished t) (ht : (eventTrace t).length ≤ traceBound s) :
    StepsDown s t := ⟨(traceBound_of_none h.1).trans_le ht, .inl h⟩

theorem stepsDown_completionStep {s : State} (hp : s.phase = .run) (hq : s.seq = []) (i : Instr) :
    StepsDown s (completionStep (onOkOf i) s) := by
  obtain ⟨r, g, -, hc⟩ := completionStep_frame i s
  rw [hc]
  refine .of_finished ⟨rfl, rfl⟩ ?_
  rw [eventTrace_of_seq_nil (by exact hq), traceBound_of_run hp]
  exact Nat.le_add_right _ _

/-- What passes its check also keeps the moves, the replies and the trace. -/
theorem CheckPasses.keeps_outside {s t : State} (h : CheckPasses s t) :
    t.rstN = s.rstN ∧ t.agenda = s.agenda ∧ t.replies = s.replies ∧ t.trace = s.trace := by
  cases h <;> exact ⟨rfl, rfl, rfl, rfl⟩

theorem Underway.stepsDown_of_checkPasses {s t : State} (h : Underway s) (hp : s.phase = .check) (hpass : CheckPasses s t) :
    StepsDown s t := by
  obtain ⟨hrun, -, hbusy⟩ := hpass.keeps
  obtain ⟨hrst, hagenda, hreplies, htrace⟩ := hpass.keeps_outside
  obtain ⟨hevents, hops⟩ := hpass.bounds
  have hgiven : answersGiven t = answersGiven s := by rw [answersGiven, hreplies, answersGiven]
  have hwaits : waitsGiven t = waitsGiven s := by rw [waitsGiven, hreplies, waitsGiven]
  refine ⟨?_, .inr ⟨⟨hrst.trans h.rstN, hbusy.trans h.busy, by simp [hrun], hagenda ▸ h.agenda, ?_⟩, ?_⟩⟩
  · rw [traceBound_of_run hrun, traceBound_of_check hp, htrace]
    exact Nat.add_le_add (trace_length_le_eventTrace s) hevents
  · rw [answersNeeded_of_run hrun, hgiven]
    exact hops.trans ((answersNeeded_of_check hp).symm.trans_le h.answers)
  · rw [stepsNeeded, stepsNeeded, turnsLeft_of_run hrun, turnsLeft_check hp, hagenda, hwaits]
    omega

/-- The Controller's turn of a command in progress, wherever it stands. -/
theorem Underway.stepsDown_controllerTurn {s t : State} (h : Underway s) (ht : controllerTurn s = .next t) :
    StepsDown s t := by
  obtain ⟨hp, -⟩ | ⟨hp, ⟨i, hd, rfl⟩ | ⟨_, -, rfl⟩⟩ | ⟨hp, hq, ⟨i, -, rfl⟩ | ⟨_, -, rfl⟩⟩ |
    ⟨hp, e, tag, rest, hq, rfl⟩ := controllerTurn_cases ht
  · exact absurd hp h.not_none
  · obtain ⟨c, -, hfail⟩ | hpass := checkOf_cases hd
    · rw [hfail]
      exact .of_finished ⟨rfl, rfl⟩ ((Nat.le_add_right _ 124).trans_eq (traceBound_of_check hp).symm)
    · exact h.stepsDown_of_checkPasses hp hpass
  · exact .of_finished ⟨rfl, rfl⟩ ((Nat.le_add_right _ 124).trans_eq (traceBound_of_check hp).symm)
  · exact stepsDown_completionStep hp hq i
  · exact stepsDown_completionStep hp hq .setup
  · by_cases hw : AwaitsAnswer s
    · obtain ⟨-, b, hb⟩ | ⟨hn, -⟩ := eventStep_seq_cases hp hq
      · rw [hb]
        exact h.stepsDown_waitTurn hw b
      · exact absurd hw hn
    · exact h.stepsDown_of_advance hp hq hw

theorem Underway.after_takeMove {s : State} (h : Underway s) : Underway (takeMove s) :=
  ⟨h.rstN, h.busy, h.not_none, fun m hm => h.agenda m (List.mem_of_mem_tail hm), h.answers⟩

theorem stepsNeeded_takeMove_le (s : State) : stepsNeeded (takeMove s) ≤ stepsNeeded s := by
  show turnsLeft s + s.agenda.tail.length + waitsGiven s ≤ turnsLeft s + s.agenda.length + waitsGiven s
  rw [List.length_tail]
  omega

theorem stepsNeeded_takeMove_lt {s : State} (h : s.agenda ≠ []) : stepsNeeded (takeMove s) < stepsNeeded s := by
  have hpos : 0 < s.agenda.length := List.length_pos_iff.mpr h
  show turnsLeft s + s.agenda.tail.length + waitsGiven s < turnsLeft s + s.agenda.length + waitsGiven s
  rw [List.length_tail]
  omega

/-- A move is the Controller's, or one of those listed. -/
theorem nextMove_cases (s : State) : nextMove s = .controller ∨ (nextMove s ∈ s.agenda ∧ s.agenda ≠ []) := by
  cases h : s.agenda with
  | nil => exact .inl (by simp [nextMove, h])
  | cons m ms => exact .inr (by simp [nextMove, h])

/-- A host access while BUSY leaves the command as it is. -/
theorem Underway.after_hostAccess {s : State} (h : Underway s) (a : HostAccess) :
    Underway (hostAccess a s) ∧ stepsNeeded (hostAccess a s) = stepsNeeded s ∧
      traceBound (hostAccess a s) = traceBound s := by
  obtain ⟨p, d, o, g, r, v, x, hw⟩ := hostAccess_of_busy h.busy a
  rw [hw]
  exact ⟨⟨h.rstN, h.busy, h.not_none, h.agenda, h.answers⟩, rfl, rfl⟩

/-- Every step of a command in progress, whoever moves, brings its end nearer. -/
theorem Underway.exists_step {s : State} (h : Underway s) : ∃ t, step s = .next t ∧ StepsDown s t := by
  have hcontroller (hm : nextMove s = .controller) : ∃ t, step s = .next t ∧ StepsDown s t := by
    have hstep : step s = _ := (step_controller ⟨h.rstN, hm⟩).trans (controllerTurn_eq _)
    refine ⟨_, hstep, ?_⟩
    obtain ⟨hbound, hend⟩ := h.after_takeMove.stepsDown_controllerTurn (controllerTurn_eq _)
    exact ⟨hbound, hend.imp_right fun ⟨hu, hlt⟩ => ⟨hu, hlt.trans_le (stepsNeeded_takeMove_le s)⟩⟩
  obtain hm | ⟨hmem, hne⟩ := nextMove_cases s
  · exact hcontroller hm
  obtain hm | ⟨a, hm⟩ := h.agenda _ hmem
  · exact hcontroller hm
  · obtain ⟨hu, hsteps, hbound⟩ := h.after_takeMove.after_hostAccess a
    exact ⟨_, step_host h.rstN hm, hbound.le, .inr ⟨hu, hsteps.trans_lt (stepsNeeded_takeMove_lt hne)⟩⟩

/-! ## The whole run -/

theorem Underway.finishes {n : Nat} {s : State} (h : Underway s) (hn : stepsNeeded s ≤ n) :
    ∃ k t, k ≤ n ∧ Host.Core.run Sys2Proof.core k s = .next t ∧ Finished t ∧ traceBound t ≤ traceBound s := by
  induction n generalizing s with
  | zero =>
    have hturns : turnsLeft s = 0 := by unfold stepsNeeded at hn; omega
    exact absurd ((turnsLeft_eq_zero s).mp hturns) h.not_none
  | succ n ih =>
    obtain ⟨t, hstep, hbound, hend | ⟨hu, hlt⟩⟩ := h.exists_step
    · exact ⟨1, t, by omega, run_succ hstep 0, hend, hbound⟩
    · obtain ⟨k, u, hk, hrun, hend, hbound'⟩ := ih hu (by omega)
      exact ⟨k + 1, u, by omega, (run_succ hstep k).trans hrun, hend, hbound'.trans hbound⟩

/-- Settles O53: an accepted command is in progress, and 70 answers are what a transaction and an abort need. -/
theorem everyAcceptedCommandCompletes : Obligations.EveryAcceptedCommandCompletes := by
  intro s hr hb hp hagenda hanswers
  have hunder : Underway s := ⟨hr, hb, by simp [hp], hagenda, by rwa [answersNeeded_of_check hp]⟩
  obtain ⟨n, t, hn, hrun, ⟨hnone, hidle⟩, hbound⟩ := hunder.finishes le_rfl
  rw [traceBound_of_none hnone, traceBound_of_check hp] at hbound
  rw [stepsNeeded, turnsLeft_check hp] at hn
  exact ⟨n, t, hn, hrun, hnone, hidle, hbound⟩

end Sys2Proof.Machine

/-! # Whole commands (42_lifecycle.md, 43_transaction.md)

A command that nobody disturbs and whose operations are answered at once: its check step, its events one after the
other, its completion. -/

namespace Sys2Proof.Machine

open Sys2Proof

/-! ## The Controller alone -/

/-- Out of reset, with no move listed: the Controller takes every turn. -/
structure Undisturbed (s : State) : Prop where
  rstN : s.rstN = true
  agenda : s.agenda = []

theorem step_undisturbed {s : State} (h : Undisturbed s) : step s = controllerTurn s := by
  have hmove : takeMove s = s := by
    unfold takeMove
    rw [h.agenda, List.tail_nil, ← h.agenda]
  have hnext : nextMove s = .controller := by simp [nextMove, h.agenda]
  rw [step_controller ⟨h.rstN, hnext⟩, hmove]

theorem step_check_undisturbed {s : State} {i : Instr} (h : Undisturbed s) (hp : s.phase = .check)
    (hd : decode s.cur = .ok i) : step s = .next (checkOf i s) := by
  rw [step_undisturbed h, controllerTurn_of_decode hd, exec_check i hp]

theorem step_event_undisturbed {s : State} {e : Event} {tag : Tag} {rest : List (Event × Tag)}
    (h : Undisturbed s) (hp : s.phase = .run) (hq : s.seq = (e, tag) :: rest) :
    step s = .next (eventStep e tag rest s) := by
  rw [step_undisturbed h, controllerTurn_event hp hq]

theorem step_done_undisturbed {s : State} {i : Instr} (h : Undisturbed s) (hp : s.phase = .run)
    (hq : s.seq = []) (ha : s.aborted = false) (hd : decode s.cur = .ok i) :
    step s = .next { onOkOf i s with err := .ok, state := s.nextState, busy := false, phase := .none } := by
  rw [step_undisturbed h, controllerTurn_of_decode hd, exec_eq, commandStep_unaborted_done _ _ hp hq ha]

/-! ## Events issued with their answers -/

/-- The trace entries of events issued in turn with these answers to their operations (40_interfaces.md R110). -/
def issued : List Event → List PinAnswer → List TraceEntry
  | [], _ => []
  | e :: l, answers =>
    if e.isPinOp then ⟨e, answers.head?⟩ :: issued l answers.tail else ⟨e, none⟩ :: issued l answers

/-- The levels that the Reads of a trace were answered. -/
def levelsRead (trace : List TraceEntry) : List Bool :=
  trace.filterMap fun t => if t.event.isRead then t.answer.map PinAnswer.level else none

/-- SR and NREAD once levels are stored in turn (41_command_engine.md R123). -/
def storeLevels (levels : List Bool) (x : BitVec 16 × Nat) : BitVec 16 × Nat :=
  levels.foldl (fun x b => if x.2 < 16 then (setLevel x.1 x.2 b, x.2 + 1) else x) x

/-- The state once events have been issued with these answers: they are in the trace, their levels in SR, an error
in RELERR; `rest` and `more` are left. -/
def afterEvents (l : List Event) (answers : List PinAnswer) (rest : List (Event × Tag)) (more : List PinReply)
    (h : Handshake) (s : State) : State :=
  { s with
    seq := rest, handshake := h, replies := more
    trace := s.trace ++ issued l answers
    relerr := s.relerr || answers.any PinAnswer.err
    sr := (storeLevels (levelsRead (issued l answers)) (s.sr, s.nread)).1
    nread := (storeLevels (levelsRead (issued l answers)) (s.sr, s.nread)).2 }

@[simp] theorem afterEvents_result (l : List Event) (as : List PinAnswer) (rest : List (Event × Tag))
    (more : List PinReply) (h : Handshake) (s : State) : (afterEvents l as rest more h s).result = s.result := rfl
@[simp] theorem afterEvents_glitch (l : List Event) (as : List PinAnswer) (rest : List (Event × Tag))
    (more : List PinReply) (h : Handshake) (s : State) : (afterEvents l as rest more h s).glitch = s.glitch := rfl
@[simp] theorem afterEvents_ovr (l : List Event) (as : List PinAnswer) (rest : List (Event × Tag))
    (more : List PinReply) (h : Handshake) (s : State) : (afterEvents l as rest more h s).ovr = s.ovr := rfl
@[simp] theorem afterEvents_relerr (l : List Event) (as : List PinAnswer) (rest : List (Event × Tag))
    (more : List PinReply) (h : Handshake) (s : State) :
    (afterEvents l as rest more h s).relerr = (s.relerr || as.any PinAnswer.err) := rfl

theorem map_event_issued (l : List Event) (answers : List PinAnswer) :
    (issued l answers).map TraceEntry.event = l := by
  induction l generalizing answers with
  | nil => rfl
  | cons e l ih => cases he : e.isPinOp <;> simp [issued, he, ih]

/-- The events of the trace once events are issued (R110). -/
theorem map_event_afterEvents_trace (l : List Event) (as : List PinAnswer) (rest : List (Event × Tag))
    (more : List PinReply) (h : Handshake) (s : State) :
    (afterEvents l as rest more h s).trace.map TraceEntry.event = s.trace.map TraceEntry.event ++ l := by
  show (s.trace ++ issued l as).map TraceEntry.event = _
  rw [List.map_append, map_event_issued]

/-- Without an error answered RELERR stays. -/
theorem afterEvents_relerr_of_ok (l : List Event) {as : List PinAnswer} (hok : ∀ a ∈ as, a.err = false)
    (rest : List (Event × Tag)) (more : List PinReply) (h : Handshake) (s : State) :
    (afterEvents l as rest more h s).relerr = s.relerr := by
  rw [afterEvents_relerr, List.any_eq_false.mpr fun a ha => by simp [hok a ha], Bool.or_false]

theorem levelsRead_append (t u : List TraceEntry) : levelsRead (t ++ u) = levelsRead t ++ levelsRead u :=
  List.filterMap_append

theorem storeLevels_append (l m : List Bool) (x : BitVec 16 × Nat) :
    storeLevels (l ++ m) x = storeLevels m (storeLevels l x) := List.foldl_append

theorem storeLevel_eq (b : Bool) (s : State) :
    storeLevel b s = { s with
      sr := (storeLevels [b] (s.sr, s.nread)).1, nread := (storeLevels [b] (s.sr, s.nread)).2 } := by
  by_cases h : s.nread < 16 <;> simp [storeLevel, storeLevels, h]

/-- A Delay issued before other events. -/
theorem afterEvents_delay_cons {e : Event} (he : e.isPinOp = false) (l : List Event) (as : List PinAnswer)
    (rest rest' : List (Event × Tag)) (more more' : List PinReply) (h h' : Handshake) (s : State) :
    afterEvents l as rest more h (afterEvents [e] [] rest' more' h' s) =
      afterEvents (e :: l) as rest more h s := by
  have hissued : issued (e :: l) as = issued [e] [] ++ issued l as := by simp [issued, he]
  simp [afterEvents, hissued, levelsRead_append, storeLevels_append]

/-- An operation issued with its answer before other events. -/
theorem afterEvents_pinOp_cons {e : Event} (he : e.isPinOp = true) (a : PinAnswer) (l : List Event)
    (as : List PinAnswer) (rest rest' : List (Event × Tag)) (more more' : List PinReply) (h h' : Handshake)
    (s : State) :
    afterEvents l as rest more h (afterEvents [e] [a] rest' more' h' s) =
      afterEvents (e :: l) (a :: as) rest more h s := by
  have hissued : issued (e :: l) (a :: as) = issued [e] [a] ++ issued l as := by simp [issued, he]
  simp [afterEvents, hissued, levelsRead_append, storeLevels_append, Bool.or_assoc]

theorem afterEvents_nil (s : State) :
    afterEvents [] [] s.seq s.replies s.handshake s = s := by
  simp [afterEvents, issued, levelsRead, storeLevels]

/-- An answered operation that does not abort: under NORMAL without error, or a RELEASE operation, none of which
is a Read (40_interfaces.md R111). -/
theorem finishPinOp_eq_afterEvents {s : State} {e : Event} {tag : Tag} {rest : List (Event × Tag)} {a : PinAnswer}
    (he : e.isPinOp = true) (ha : a.err = false ∨ (tag = .release ∧ e.isRead = false)) :
    finishPinOp e tag rest a s = afterEvents [e] [a] rest s.replies .idle s := by
  have hissued : issued [e] [a] = [⟨e, some a⟩] := by simp [issued, he]
  cases herr : a.err with
  | false =>
    cases hread : e.isRead with
    | false => simp [finishPinOp, afterEvents, hissued, levelsRead, storeLevels, herr, hread, retire]
    | true => simp [finishPinOp, afterEvents, hissued, levelsRead, storeLevel_eq, herr, hread, retire]
  | true =>
    obtain ⟨rfl, hread⟩ : tag = .release ∧ e.isRead = false := by simpa [herr] using ha
    simp [finishPinOp, afterEvents, hissued, levelsRead, storeLevels, herr, hread, retire, pinError]

theorem step_delay_undisturbed {s : State} {e : Event} {tag : Tag} {rest : List (Event × Tag)}
    (h : Undisturbed s) (hp : s.phase = .run) (hq : s.seq = (e, tag) :: rest) (he : e.isPinOp = false) :
    step s = .next (afterEvents [e] [] rest s.replies .idle s) := by
  rw [step_event_undisturbed h hp hq, eventStep_of_delay he]
  simp [afterEvents, issued, he, levelsRead, storeLevels, retire, isRead_of_not_isPinOp he]

theorem step_pinOp_undisturbed {s : State} {e : Event} {tag : Tag} {rest : List (Event × Tag)} {a : PinAnswer}
    {more : List PinReply} (h : Undisturbed s) (hp : s.phase = .run) (hq : s.seq = (e, tag) :: rest)
    (he : e.isPinOp = true) (hreplies : s.replies = .answered a :: more)
    (ha : a.err = false ∨ (tag = .release ∧ e.isRead = false)) :
    step s = .next (afterEvents [e] [a] rest more .idle s) := by
  rw [step_event_undisturbed h hp hq, eventStep_pinOp he, pinOpStep_answered (nextReply_cons hreplies),
    finishPinOp_eq_afterEvents he ha, consumeReply_cons hreplies]
  rfl

theorem Undisturbed.afterEvents {s : State} (hs : Undisturbed s) (l : List Event) (as : List PinAnswer)
    (rest : List (Event × Tag)) (more : List PinReply) (h : Handshake) :
    Undisturbed (afterEvents l as rest more h s) := ⟨hs.rstN, hs.agenda⟩

/-- No operation is answered so that it aborts: no error at all, or RELEASE events without a Read. -/
def NoAbort (q : List (Event × Tag)) (answers : List PinAnswer) : Prop :=
  (∀ a ∈ answers, a.err = false) ∨ ∀ x ∈ q, x.2 = .release ∧ x.1.isRead = false

/-- The run of a list of events, each operation answered at once. -/
theorem run_events {q rest : List (Event × Tag)} {as : List PinAnswer} {more : List PinReply} {s : State}
    (hs : Undisturbed s) (hp : s.phase = .run) (hq : s.seq = q ++ rest)
    (hreplies : s.replies = as.map PinReply.answered ++ more)
    (hlen : as.length = (pinOps (q.map Prod.fst)).length) (hok : NoAbort q as) :
    ∃ h, ∀ n, Host.Core.run Sys2Proof.core (q.length + n) s =
      Host.Core.run Sys2Proof.core n (afterEvents (q.map Prod.fst) as rest more h s) := by
  induction q generalizing s as with
  | nil =>
    obtain rfl : as = [] := List.eq_nil_of_length_eq_zero hlen
    obtain rfl : s.seq = rest := hq
    obtain rfl : s.replies = more := hreplies
    exact ⟨s.handshake, fun n => by rw [List.map_nil, afterEvents_nil, List.length_nil, Nat.zero_add]⟩
  | cons x q ih =>
    obtain ⟨e, tag⟩ := x
    cases he : e.isPinOp with
    | false =>
      have hstep := step_delay_undisturbed (rest := q ++ rest) hs hp hq he
      obtain ⟨h, hrun⟩ := ih (hs.afterEvents _ _ _ _ _) hp rfl hreplies (by simpa [pinOps, he] using hlen)
        (hok.imp_right fun hq x hx => hq x (List.mem_cons_of_mem _ hx))
      refine ⟨h, fun n => ?_⟩
      rw [List.length_cons, Nat.succ_add, run_succ hstep, hrun, afterEvents_delay_cons he, List.map_cons]
    | true =>
      obtain ⟨a, as, rfl⟩ : ∃ a as', as = a :: as' := List.exists_cons_of_length_eq_add_one
        (by simpa [pinOps, he] using hlen)
      have hstep := step_pinOp_undisturbed (rest := q ++ rest)
        (more := as.map PinReply.answered ++ more) hs hp hq he hreplies
        (hok.imp (fun h => h a List.mem_cons_self) fun h => h (e, tag) List.mem_cons_self)
      obtain ⟨h, hrun⟩ := ih (hs.afterEvents _ _ _ _ _) hp rfl rfl (by simpa [pinOps, he] using hlen)
        (hok.imp (fun h x hx => h x (List.mem_cons_of_mem _ hx)) fun h x hx => h x (List.mem_cons_of_mem _ hx))
      refine ⟨h, fun n => ?_⟩
      rw [List.length_cons, Nat.succ_add, run_succ hstep, hrun, afterEvents_pinOp_cons he, List.map_cons]

/-- The events that are left of an unaborted command, and its completion. -/
theorem run_to_end {q : List (Event × Tag)} {as : List PinAnswer} {more : List PinReply} {s : State} {i : Instr}
    (hs : Undisturbed s) (hp : s.phase = .run) (hq : s.seq = q) (ha : s.aborted = false)
    (hd : decode s.cur = .ok i) (hreplies : s.replies = as.map PinReply.answered ++ more)
    (hlen : as.length = (pinOps (q.map Prod.fst)).length) (hok : NoAbort q as) :
    ∃ h, Host.Core.run Sys2Proof.core (q.length + 1) s =
      .next { onOkOf i (afterEvents (q.map Prod.fst) as [] more h s) with
        err := .ok, state := s.nextState, busy := false, phase := .none } := by
  obtain ⟨h, hevents⟩ := run_events (rest := []) hs hp (hq.trans (List.append_nil q).symm) hreplies hlen hok
  exact ⟨h, (hevents 1).trans (run_succ
    (step_done_undisturbed (hs.afterEvents (q.map Prod.fst) as [] more h) hp rfl ha hd) 0)⟩

/-- The check step of a command. -/
theorem run_check {s : State} {i : Instr} (h : Undisturbed s) (hp : s.phase = .check)
    (hd : decode s.cur = .ok i) (n : Nat) :
    Host.Core.run Sys2Proof.core (1 + n) s = Host.Core.run Sys2Proof.core n (checkOf i s) := by
  rw [Nat.add_comm, run_succ (step_check_undisturbed h hp hd)]

/-! ## Where a command leaves the block -/

/-- The pins owned between commands in IDLE and in RELEASED (10_state.md R41). -/
theorem ownedPins_of_idle {s : State} (hp : s.phase = .none) (hs : s.state = .idle) :
    ownedPins s = [s.actPins.csPin, s.actPins.clkPin, s.actPins.dioPin] := by
  rw [ownedPins_of_state (by simp [hp]), if_pos (.inl hs), Pins.all]

theorem ownedPins_of_released {s : State} (hp : s.phase = .none) (hs : s.state = .released) :
    ownedPins s = [] := by
  rw [ownedPins_of_state (by simp [hp]), if_neg (by simp [hs])]

/-! ## TEARDOWN (42_lifecycle.md R150 to R154) -/

/-- Settles O57: accepted, checked without an event to issue, completed. -/
theorem secondTeardownIsSilent : Obligations.SecondTeardownIsSilent := by
  intro s hr hb hs ha
  have hmove : nextMove s = .host (issue .teardown) := by simp [nextMove, ha]
  have haccept : step s = .next (accept (encode .teardown) (takeMove s)) := by
    rw [step_host hr hmove]
    exact congrArg _ (hostAccess_writeCmd_accept (s := takeMove s) hr hb _)
  generalize hu : accept (encode .teardown) (takeMove s) = u at haccept
  have hundisturbed : Undisturbed u := hu ▸ ⟨hr, by simp [ha]⟩
  have hd : decode u.cur = .ok .teardown := hu ▸ (decode_acceptedWord _).trans (decode_encode rfl)
  have hcheck := run_check hundisturbed (hu ▸ rfl) hd 1
  have hnone : teardownEvents u = [] := teardownEvents_of_unowned (.inr (hu ▸ hs))
  obtain ⟨h, hend⟩ := run_to_end (q := []) (as := []) (more := u.replies) (s := checkOf .teardown u)
    ⟨hundisturbed.rstN, hundisturbed.agenda⟩ rfl hnone rfl hd rfl rfl (.inl nofun)
  subst hu
  refine ⟨_, (run_succ haccept 2).trans (hcheck.trans hend), ?_, rfl, rfl, rfl, rfl, ?_, rfl, rfl, rfl⟩
  · exact List.append_nil s.trace
  · exact Bool.or_false s.relerr

theorem noAbort_safeRelease (a : Pins) (d : Word) (answers : List PinAnswer) :
    NoAbort (safeRelease a d) answers := .inr fun _ hx => mem_safeRelease hx

theorem length_safeRelease (a : Pins) (d : Word) : (safeRelease a d).length = 12 := rfl

theorem map_fst_safeRelease (a : Pins) (d : Word) :
    (safeRelease a d).map Prod.fst = safeReleaseEvents a d := map_fst_tagged _ _

theorem map_fst_configure (a : Pins) (d : Word) : (configure a d).map Prod.fst = configureEvents a d :=
  map_fst_tagged _ _

/-- Settles O56: the check, the twelve RELEASE events whatever is answered, the completion. -/
theorem teardownRunAlwaysReleases : Obligations.TeardownRunAlwaysReleases := by
  intro s answers more hr ha hp hd hs hreplies hlen
  have hcheck := run_check ⟨hr, ha⟩ hp hd 13
  obtain ⟨h, hend⟩ := run_to_end (s := checkOf .teardown s) ⟨hr, ha⟩ rfl
    (teardownEvents_of_idle (s := beginCheck s) hs) rfl hd hreplies hlen (noAbort_safeRelease _ _ _)
  refine ⟨_, hcheck.trans hend, ?_, rfl, rfl, rfl, rfl, rfl, ownedPins_of_released rfl rfl, rfl, rfl, rfl, rfl⟩
  exact map_event_afterEvents_trace _ answers [] more h _

/-! ## SETUP (42_lifecycle.md R140 to R143) -/

/-- The state that the check step of a SETUP leaves when it passes. -/
def startSetup (s : State) : State :=
  startRun (setupPrelude s ++ configure s.cfgPins s.cfgDelay) .idle (latchActive (takeSnap (beginCheck s)))

theorem checkOf_setup_of_goodPins {s : State} (hd : s.cfgPins.distinct = true)
    (hv : pinsValid s.cfgPins s = true) : checkOf .setup s = startSetup s :=
  setupCheck_of_goodPins (s := beginCheck s) hd hv

theorem startSetup_seq_of_idle {s : State} (h : s.state = .idle) :
    (startSetup s).seq = safeRelease s.actPins s.actDelay ++ configure s.cfgPins s.cfgDelay :=
  congrArg (· ++ _) (setupPrelude_of_idle h)

theorem startSetup_seq_of_not_idle {s : State} (h : s.state ≠ .idle) :
    (startSetup s).seq = configure s.cfgPins s.cfgDelay :=
  congrArg (· ++ configure s.cfgPins s.cfgDelay) (setupPrelude_of_not_idle h)

/-- What a SETUP has left once it completes, from a state with its configuration made active: IDLE on the active
pins, RESULT and the flags as they were. -/
structure Configured (s t : State) : Prop where
  state : t.state = .idle
  err : t.err = .ok
  busy : t.busy = false
  phase : t.phase = .none
  active : ActiveKept s t
  result : t.result = s.result
  glitch : t.glitch = s.glitch
  relerr : t.relerr = s.relerr
  ovr : t.ovr = s.ovr

theorem Configured.ownedPins {s t : State} (h : Configured s t) :
    ownedPins t = [s.actPins.csPin, s.actPins.clkPin, s.actPins.dioPin] :=
  h.active.1 ▸ ownedPins_of_idle h.phase h.state

/-- The last six events of a SETUP, answered without error, and its completion. -/
theorem run_configure_to_end {s : State} {answers : List PinAnswer} {more : List PinReply}
    (hs : Undisturbed s) (hp : s.phase = .run) (hq : s.seq = configure s.actPins s.actDelay)
    (ha : s.aborted = false) (hn : s.nextState = .idle) (hd : decode s.cur = .ok .setup)
    (hreplies : s.replies = answers.map PinReply.answered ++ more) (hlen : answers.length = 3)
    (hok : ∀ a ∈ answers, a.err = false) :
    ∃ t, Host.Core.run Sys2Proof.core 7 s = .next t ∧ Configured s t ∧
      t.trace.map TraceEntry.event =
        s.trace.map TraceEntry.event ++ configureEvents s.actPins s.actDelay := by
  obtain ⟨h, hend⟩ := run_to_end hs hp hq ha hd hreplies hlen (.inl hok)
  rw [map_fst_configure] at hend
  refine ⟨_, hend, ⟨hn, rfl, rfl, rfl, ⟨rfl, rfl, rfl⟩, rfl, rfl, ?_, rfl⟩, ?_⟩
  · exact afterEvents_relerr_of_ok (configureEvents s.actPins s.actDelay) hok [] more h s
  · exact map_event_afterEvents_trace (configureEvents s.actPins s.actDelay) answers [] more h s

/-- Settles O55: the check, from IDLE the twelve RELEASE events whatever is answered, the six configuration events,
the completion. -/
theorem setupRunReachesIdle : Obligations.SetupRunReachesIdle := by
  intro s answers more hr ha hp hd hdistinct hvalid hreplies
  have hcheck (n : Nat) := run_check ⟨hr, ha⟩ hp hd n
  rw [checkOf_setup_of_goodPins hdistinct hvalid] at hcheck
  have hstart : Undisturbed (startSetup s) := ⟨hr, ha⟩
  refine ⟨fun hs hlen hok => ?_, fun hs hlen hok => ?_⟩
  · have hnotIdle : s.state ≠ .idle := by obtain h | h := hs <;> simp [h]
    obtain ⟨t, hend, hdone, htrace⟩ := run_configure_to_end hstart rfl
      (startSetup_seq_of_not_idle hnotIdle) rfl rfl hd hreplies hlen hok
    obtain ⟨hpins, hdelay, hopt⟩ := hdone.active
    exact ⟨t, (hcheck 7).trans hend, htrace, hdone.state, hdone.err, hdone.busy, hdone.phase, hpins, hdelay,
      hopt, hdone.ownedPins, hdone.result, hdone.glitch, hdone.relerr, hdone.ovr⟩
  · have hsplit : s.replies = (answers.take 6).map PinReply.answered ++
        ((answers.drop 6).map PinReply.answered ++ more) := by
      rw [← List.append_assoc, ← List.map_append, List.take_append_drop, hreplies]
    obtain ⟨h, hrelease⟩ := run_events hstart rfl (startSetup_seq_of_idle hs) hsplit
      (by rw [List.length_take, hlen]; rfl) (noAbort_safeRelease _ _ _)
    rw [map_fst_safeRelease, length_safeRelease] at hrelease
    obtain ⟨t, hend, hdone, htrace⟩ := run_configure_to_end (answers := answers.drop 6) (more := more)
      (s := afterEvents (safeReleaseEvents s.actPins s.actDelay) (answers.take 6)
        (configure s.cfgPins s.cfgDelay) ((answers.drop 6).map PinReply.answered ++ more) h (startSetup s))
      (hstart.afterEvents _ _ _ _ _) rfl rfl rfl rfl hd rfl (by rw [List.length_drop, hlen]) hok
    obtain ⟨hpins, hdelay, hopt⟩ := hdone.active
    refine ⟨t, (hcheck 19).trans ((hrelease 7).trans hend), ?_, hdone.state, hdone.err, hdone.busy, hdone.phase,
      hpins, hdelay, hopt, hdone.ownedPins, ?_, ?_, ?_, ?_⟩
    · rw [htrace, map_event_afterEvents_trace]
      rfl
    · rw [hdone.result, afterEvents_result]
      rfl
    · rw [hdone.glitch, afterEvents_glitch]
      rfl
    · rw [hdone.ovr, afterEvents_ovr]
      rfl
    · rw [hdone.relerr, afterEvents_relerr]
      rfl

end Sys2Proof.Machine

/-! # A whole read (43_transaction.md sections 1 to 4)

Which answers of a transaction are the levels of its sixteen Reads, where they stand in SR, and what the run of a
READ or READ_BOTH leaves. -/

namespace Sys2Proof.Machine

open Sys2Proof

/-! ## Levels in SR (R166) -/

/-- Levels stored in turn: those already there stay, and the new ones stand from NREAD on. -/
theorem getLsbD_storeLevels (levels : List Bool) (x : BitVec 16 × Nat) (h : x.2 + levels.length ≤ 16) :
    (∀ j, j < x.2 → (storeLevels levels x).1.getLsbD j = x.1.getLsbD j) ∧
    (∀ j, j < levels.length → some ((storeLevels levels x).1.getLsbD (x.2 + j)) = levels[j]?) := by
  induction levels generalizing x with
  | nil => exact ⟨fun _ _ => rfl, nofun⟩
  | cons b levels ih =>
    have hlt : x.2 < 16 := by simp only [List.length_cons] at h; omega
    have hstore : storeLevels (b :: levels) x = storeLevels levels (setLevel x.1 x.2 b, x.2 + 1) := by
      simp [storeLevels, hlt]
    obtain ⟨hold, hnew⟩ := ih (setLevel x.1 x.2 b, x.2 + 1) (by simp only [List.length_cons] at h ⊢; omega)
    rw [hstore]
    refine ⟨fun j hj => ?_, fun j hj => ?_⟩
    · rw [hold j (by simp only; omega), getLsbD_setLevel _ _ _ _ hlt, if_neg (by omega)]
    · cases j with
      | zero => exact congrArg some ((hold x.2 (Nat.lt_succ_self _)).trans
          ((getLsbD_setLevel _ _ _ _ hlt).trans (if_pos rfl)))
      | succ j =>
        rw [show x.2 + (j + 1) = x.2 + 1 + j by omega, hnew j (by simpa using hj)]
        rfl

/-! ## The levels of a transaction (R164 to R169) -/

theorem issued_append (l m : List Event) (answers : List PinAnswer) :
    issued (l ++ m) answers = issued l answers ++ issued m (answers.drop (pinOps l).length) := by
  induction l generalizing answers with
  | nil => rfl
  | cons e l ih => cases he : e.isPinOp <;> simp [issued, pinOps, he, ih]

/-- The levels a list of events reads from these answers. -/
def levelsOf (l : List Event) (answers : List PinAnswer) : List Bool := levelsRead (issued l answers)

theorem levelsOf_append (l m : List Event) (answers : List PinAnswer) :
    levelsOf (l ++ m) answers = levelsOf l answers ++ levelsOf m (answers.drop (pinOps l).length) := by
  rw [levelsOf, issued_append, levelsRead_append]
  rfl

theorem levelsOf_of_no_reads {l : List Event} (h : readOps l = []) (answers : List PinAnswer) :
    levelsOf l answers = [] := by
  have hreads : ∀ t ∈ issued l answers, t.event.isRead = false := fun t ht => by
    have hmem : t.event ∈ l := map_event_issued l answers ▸ List.mem_map_of_mem ht
    simpa using List.filter_eq_nil_iff.mp h _ hmem
  exact List.filterMap_eq_nil_iff.mpr fun t ht => by simp [hreads t ht]

/-- Clocked Reads take the middle one of every three answers. -/
theorem levelsOf_samples (a : Pins) (d : Word) {n : Nat} {answers : List PinAnswer} (h : 3 * n ≤ answers.length) :
    (levelsOf (List.replicate n (sampleEvents a d)).flatten answers).length = n ∧
    ∀ k, k < n → (levelsOf (List.replicate n (sampleEvents a d)).flatten answers)[k]? =
      (answers[1 + 3 * k]?).map PinAnswer.level := by
  induction n generalizing answers with
  | zero => exact ⟨rfl, nofun⟩
  | succ n ih =>
    obtain ⟨x, y, z, rest, rfl⟩ : ∃ x y z rest, answers = x :: y :: z :: rest := by
      match answers, h with
      | x :: y :: z :: rest, _ => exact ⟨x, y, z, rest, rfl⟩
    have hlevels : levelsOf (List.replicate (n + 1) (sampleEvents a d)).flatten (x :: y :: z :: rest) =
        y.level :: levelsOf (List.replicate n (sampleEvents a d)).flatten rest := by
      rw [List.replicate_succ, List.flatten_cons, levelsOf_append]
      rfl
    obtain ⟨hlen, hget⟩ := ih (answers := rest) (by simp only [List.length_cons] at h; omega)
    rw [hlevels]
    refine ⟨by rw [List.length_cons, hlen], fun k hk => ?_⟩
    cases k with
    | zero => rfl
    | succ k =>
      rw [List.getElem?_cons_succ, hget k (by omega), show 1 + 3 * (k + 1) = (1 + 3 * k) + 3 by omega]
      rfl

/-- The levels of a transaction are those of its two sample bytes, after 12 operations and after 38. -/
theorem levelsOf_transactionEvents (ch : Nat) (a : Pins) (d : Word) (answers : List PinAnswer) :
    levelsOf (transactionEvents ch a d) answers =
      levelsOf (sampleByte a d) (answers.drop 12) ++ levelsOf (sampleByte a d) (answers.drop 38) := by
  rw [transactionEvents, levelsOf_append, levelsOf_append, levelsOf_append, levelsOf_append,
    levelsOf_of_no_reads (l := deselectEvents a d) rfl, levelsOf_of_no_reads (l := clockPulse a d) rfl,
    levelsOf_of_no_reads rfl, List.append_nil, List.append_nil, List.nil_append]
  rfl

/-- SR after a transaction's answers, from an empty SR. -/
def transactionLevels (ch : Nat) (a : Pins) (d : Word) (answers : List PinAnswer) : BitVec 16 :=
  (storeLevels (levelsOf (transactionEvents ch a d) answers) (0, 0)).1

/-- The first eight levels are the 14th answer and every third to the 35th, the last eight the 40th and every
third to the 61st. -/
theorem getLsbD_transactionLevels (ch : Nat) (a : Pins) (d : Word) {answers : List PinAnswer}
    (hlen : answers.length = 64) {k : Nat} (hk : k < 8) :
    some ((transactionLevels ch a d answers).getLsbD k) = (answers[13 + 3 * k]?).map PinAnswer.level ∧
    some ((transactionLevels ch a d answers).getLsbD (8 + k)) = (answers[39 + 3 * k]?).map PinAnswer.level := by
  obtain ⟨hlen₁, hget₁⟩ := levelsOf_samples a d (n := 8) (answers := answers.drop 12) (by simp [hlen])
  obtain ⟨hlen₂, hget₂⟩ := levelsOf_samples a d (n := 8) (answers := answers.drop 38) (by simp [hlen])
  have hlevels : levelsOf (transactionEvents ch a d) answers = _ := levelsOf_transactionEvents ch a d answers
  have hsixteen : (levelsOf (transactionEvents ch a d) answers).length = 16 := by
    rw [hlevels, List.length_append, sampleByte, hlen₁, hlen₂]
  have hbit (j : Nat) (hj : j < 16) : some ((transactionLevels ch a d answers).getLsbD j) =
      (levelsOf (transactionEvents ch a d) answers)[j]? := by
    have hnew := (getLsbD_storeLevels (levelsOf (transactionEvents ch a d) answers) (0, 0)
      (by rw [hsixteen])).2 j (by rwa [hsixteen])
    rwa [Nat.zero_add] at hnew
  rw [hbit k (by omega), hbit (8 + k) (by omega), hlevels, sampleByte]
  refine ⟨?_, ?_⟩
  · rw [List.getElem?_append_left (by omega), hget₁ k hk, List.getElem?_drop, ← Nat.add_assoc]
  · rw [List.getElem?_append_right (by omega), hlen₁, Nat.add_sub_cancel_left, hget₂ k hk, List.getElem?_drop,
      ← Nat.add_assoc]

/-! ## The run of a read -/

/-- The state that the check step of a read leaves when it passes. -/
def startRead (ch : Nat) (s : State) : State :=
  startRun (transaction ch s.actPins s.actDelay) .idle
    { beginCheck s with sr := 0, nread := 0, state := .inTransaction }

theorem checkOf_read_of_valid {i : Instr} {ch : Nat} (hi : i = .read ch ∨ i = .readBoth ch) {s : State}
    (hs : s.state = .idle) (hch : ch < 2) : checkOf i s = startRead ch s := by
  rw [checkOf_read hi, readCheck_of_valid (s := beginCheck s) hs hch]
  rfl

/-- Settles O54: the check, the 112 events of the transaction, and the completion, whose samples are the levels
the transaction left in SR. -/
theorem readRunDeliversSamples : Obligations.ReadRunDeliversSamples := by
  intro s ch i answers more hr ha hp hd hi hch hs hreplies hlen hok
  have hcheck := run_check ⟨hr, ha⟩ hp hd 113
  rw [checkOf_read_of_valid hi hs hch] at hcheck
  have hstart : Undisturbed (startRead ch s) := ⟨hr, ha⟩
  obtain ⟨h, hevents⟩ := run_events (q := transaction ch s.actPins s.actDelay) (rest := []) hstart rfl
    (List.append_nil _).symm hreplies (hlen.trans (length_pinOps_transaction _ _ _).symm) (.inl hok)
  rw [length_transaction, transaction, map_fst_tagged] at hevents
  have hend := hstart.afterEvents (transactionEvents ch s.actPins s.actDelay) answers [] more h
  obtain ⟨first, second, hfirst, hsecond, hexec⟩ := readsCompleteWithResult
    (afterEvents (transactionEvents ch s.actPins s.actDelay) answers [] more h (startRead ch s)) ch i hi rfl rfl rfl
  have hdone := (step_undisturbed hend).trans ((controllerTurn_of_decode
    (s := afterEvents (transactionEvents ch s.actPins s.actDelay) answers [] more h (startRead ch s)) hd).trans hexec)
  have hsr := fun k hk => getLsbD_transactionLevels ch s.actPins s.actDelay hlen (k := k) hk
  refine ⟨_, hcheck.trans ((hevents 1).trans (run_succ hdone 0)), ?_, rfl, rfl, rfl, rfl, rfl, fun k hk => ?_,
    fun k hk => ?_, rfl, rfl, rfl, rfl, rfl, rfl, rfl, rfl, ?_⟩
  · exact map_event_afterEvents_trace _ answers [] more h (startRead ch s)
  · exact (congrArg some (hfirst k hk)).trans (hsr k hk).1
  · exact (congrArg some (hsecond k hk)).trans (hsr k hk).2
  · exact ownedPins_of_idle rfl rfl

end Sys2Proof.Machine
